-- ==== Sys2Proof/Word.lean ====
section
/-! DEFINITION. The bytes, addresses and small numbers the part's tables and wires are made of. -/

namespace Sys2Proof

/-- A byte on a wire or in a cell. Within a byte bit 0 is the least significant (00_scope.md, E). -/
abbrev Byte := BitVec 8

/-- A run of bytes in wire order: the first byte of the list is sent first. -/
abbrev Bytes := List Byte

/-- A 48-bit Ethernet address, its first byte on the wire the most significant. -/
abbrev Addr := BitVec 48

/-- One of the eight traffic classes 0 to 7 (R17). -/
abbrev TrafficClass := Fin 8

/-- A reading of the millisecond time base, or a deadline on it. Readings are compared as plain numbers and the
time base does not wrap (00_scope.md, E), so a reading is a number and not a 48-bit word. -/
abbrev Reading := Nat

end Sys2Proof
end

