-- ==== Sys2Proof/Syntax.lean ====
section
/-! DEFINITION. The commands of the part: one constructor per row of spec/opcode_table.json.

The table gives its rows no bits and no operands, so the operands are the model's (log 1, 5, 6, 7):
`t` is the time-base reading at which the event is taken;
`n` is the number of a cell within its frame or record, from 0;
`data` and `checkGood` are a received frame, without its frame check sequence, and whether that sequence was good;
`bytes` are the bytes of a record from the modem since the delimiter before it, and `head` its first four;
`way` is a table index of the Flow Table.
A request of the manager carries no operand here: its kind, table, index, count, options, field-select set and data
stand in the control frame that the part is executing (R171 to R173). -/

namespace Sys2Proof

/-- A command: an operation or event of the part, whole and indivisible (95_what_each_step_holds.md). -/
inductive Instr where
  /-- RESET_N (R57). The reset input empties every place, returns every cell and sets all blocks, tables, records and counters to their reset values. -/
  | resetN (start lightLost onReserve : Bool)
  /-- LIGHT_LOST_ACTIVE (R60). LIGHT_LOST becoming active stops probing, abandons the outstanding probe and takes the fibre DOWN as a flap or relapse, or leaves it DOWN. -/
  | lightLostActive (t : Reading)
  /-- LIGHT_LOST_INACTIVE (R61). LIGHT_LOST becoming inactive restarts probing with an immediate probe instant, or, with probing off, counts as one hit toward recovery. -/
  | lightLostInactive (t : Reading)
  /-- ON_RESERVE_ACTIVE (R106). ON_RESERVE becoming active sets the reserve flag, recomputes the ceilings and admission, caps a running linger timer and raises RESERVE. -/
  | onReserveActive (t : Reading)
  /-- ON_RESERVE_INACTIVE (R106). ON_RESERVE becoming inactive clears the reserve flag, recomputes the ceilings and admission and raises RESERVE. -/
  | onReserveInactive (t : Reading)
  /-- PREMISES_CELL_TAKE (R44). A cell is taken for an arriving Premises port frame as its first byte and each further 128 bytes begin, discarding the frame on shortage or over-length. -/
  | premisesCellTake (t : Reading) (n : Nat)
  /-- PREMISES_FRAME_RECEIVED (R44). A frame ends on the Premises port and is length-checked and dispatched: control frames to the control queue, others by mode to PASS forwarding, a HOLD drop, or lookup and steering. -/
  | premisesFrameReceived (t : Reading) (data : Bytes) (checkGood : Bool)
  /-- FIBRE_CELL_TAKE (R51). A cell is taken at the fibre-downstream tail for an arriving Fibre port frame, discarding it on shortage, downstream limit or over-length. -/
  | fibreCellTake (t : Reading) (n : Nat)
  /-- FIBRE_FRAME_RECEIVED (R51). A frame ends on the Fibre port, is checked, judged by the Fibre Path Monitor, and is consumed as a probe reply or made eligible or dropped by mode. -/
  | fibreFrameReceived (t : Reading) (data : Bytes) (checkGood : Bool)
  /-- FIBRE_TRANSMIT_END (R46). A frame's transmission on the Fibre port ends, its cells return, its fibre pending falls, and the next probe or frame begins. -/
  | fibreTransmitEnd (t : Reading)
  /-- PROBE_INSTANT (R62). At each probe interval the outstanding probe is judged and a new probe with the next sequence is issued. -/
  | probeInstant (t : Reading)
  /-- HOLD_DOWN_DEADLINE (R70). The hold-down deadline passes, and a RECOVERING fibre with enough hits, or with probing off, becomes UP. -/
  | holdDownDeadline (t : Reading)
  /-- CALM_PERIOD_END (R72). The end of a calm period in UP or SUSPECT lowers the flap count by 1 and restarts the period. -/
  | calmPeriodEnd (t : Reading)
  /-- MODEM_CELL_TAKE (R52). A cell is taken in the modem receive assembly as each 128 bytes of a record payload begin, discarding the record on shortage. -/
  | modemCellTake (t : Reading) (head : Bytes) (n : Nat)
  /-- STATUS_RECORD (R88). A good STATUS record is taken and its attach and bearer fields drive link sync and the radio state machine. -/
  | statusRecord (t : Reading) (bytes : Bytes)
  /-- GRANT_RECORD (R82). A good GRANT record is taken, and in OPEN or LINGER it sets the grant balance and gives a rate sample; elsewhere it is stray. -/
  | grantRecord (t : Reading) (bytes : Bytes)
  /-- DATA_RECORD (R157). A good downstream DATA record is taken, metered, checked and unwrapped by the Carrier Unit, and its frame delivered by mode. -/
  | dataRecord (t : Reading) (bytes : Bytes)
  /-- UNKNOWN_KIND_RECORD (R81). A received record of an unknown kind code is discarded and counted. -/
  | unknownKindRecord (t : Reading) (bytes : Bytes)
  /-- SILENCE_TIMER_EXPIRY (R84). The silence timer expires, the link goes down, and the staged and in-transfer records are discarded and the radio side reset to ABSENT. -/
  | silenceTimerExpiry (t : Reading)
  /-- TRANSFER_BEGIN (R85). A pending bearer record, or a staged frame whose carrier length fits the grant balance, becomes the record in transfer. -/
  | transferBegin (t : Reading)
  /-- TRANSFER_END (R86). A record's transfer ends on the Modem link; for DATA the cells return, radio pending falls and the Allowance Meter counts it. -/
  | transferEnd (t : Reading)
  /-- OPEN_TIMER_EXPIRY (R90). The open timer expires in OPENING, and the bearer returns to READY with the retry timer running. -/
  | openTimerExpiry (t : Reading)
  /-- LINGER_TIMER_EXPIRY (R91). The linger timer expires, BEARER_CLOSE is requested, the closing timer started and CLOSING entered. -/
  | lingerTimerExpiry (t : Reading)
  /-- CLOSING_TIMER_EXPIRY (R92). The closing timer expires and the bearer enters READY, opening again at once with open demand. -/
  | closingTimerExpiry (t : Reading)
  /-- RETRY_TIMER_EXPIRY (R89). The retry timer expires in READY, and the bearer opens if open demand holds. -/
  | retryTimerExpiry (t : Reading)
  /-- CREDIT_REFILL (R138). At each 10 ms instant in OPEN or LINGER, each admitted class receives its share of the allotment up to its cap, and a selection follows. -/
  | creditRefill (t : Reading)
  /-- DRAIN_DEADLINE_EXPIRY (R125). A DRAINING flow's deadline timer expires, its waiting old-path frames are discarded, and the move completes or the flow becomes overdue. -/
  | drainDeadlineExpiry (t : Reading) (way : Nat)
  /-- AGING_VISIT (R35). Each second's aging sweep visits an entry and removes it if it is ACTIVE, idle and older than its class idle timeout. -/
  | agingVisit (t : Reading) (way : Nat)
  /-- HOLD_TIMER_EXPIRY (R177). The hold timer expires, the table hold lapses, and HOLD is raised with the HOLD_LAPSED flag. -/
  | holdTimerExpiry (t : Reading)
  /-- CONTROL_FRAME_BEGIN (R49). With priority FIFO room and enough free cells, the Control Unit begins the head control frame, checks its form and takes reply cells. -/
  | controlFrameBegin (t : Reading)
  /-- DISCOVER (R176). DISCOVER returns the vendor code, part code, revision and factory address. -/
  | discover (t : Reading)
  /-- READ_STATION_RECORD (R174). READ of the Station record returns its fields. -/
  | readStationRecord (t : Reading)
  /-- WRITE_STATION_RECORD (R174). WRITE of the Station record sets the selected fields with clamping, each taking effect as its owner's rule gives. -/
  | writeStationRecord (t : Reading)
  /-- READ_CLASS_RULE_TABLE (R16). READ of the Class Rule Table returns rules with their match counts, clearing those counts with the clear option. -/
  | readClassRuleTable (t : Reading)
  /-- WRITE_CLASS_RULE_TABLE (R15). WRITE of one Class Rule Table rule is carried out under the table hold with clamping, or refused NOT_HELD or RANGE. -/
  | writeClassRuleTable (t : Reading)
  /-- READ_CLASS_TABLE (R18). READ of the Class Table returns the fields of the classes named. -/
  | readClassTable (t : Reading)
  /-- WRITE_CLASS_TABLE (R18). WRITE of one Class Table entry sets the selected fields, which meet existing state as the rule's table gives. -/
  | writeClassTable (t : Reading)
  /-- READ_FLOW_TABLE (R39). READ of the Flow Table returns entries one by one as they stand. -/
  | readFlowTable (t : Reading)
  /-- DELETE (R37). DELETE removes an idle ACTIVE flow entry by index, or is refused BUSY. -/
  | deleteFlow (t : Reading)
  /-- FLUSH_FLOWS (R38). FLUSH_FLOWS removes every idle ACTIVE entry at once and returns the number of entries remaining. -/
  | flushFlows (t : Reading)
  /-- READ_PROBE_RECORD (R59). READ of the Probe record returns its settings. -/
  | readProbeRecord (t : Reading)
  /-- WRITE_PROBE_RECORD (R74). WRITE of the Probe record sets the selected settings with their effects on the running monitor. -/
  | writeProbeRecord (t : Reading)
  /-- READ_RADIO_RECORD (R95). READ of the Radio record returns its settings. -/
  | readRadioRecord (t : Reading)
  /-- WRITE_RADIO_RECORD (R95). WRITE of the Radio record sets timers, shifts, headroom, run limit and pre-open with their stated effects. -/
  | writeRadioRecord (t : Reading)
  /-- READ_TUNNEL_RECORD (R151). READ of the Tunnel record returns the template and carrier settings. -/
  | readTunnelRecord (t : Reading)
  /-- WRITE_TUNNEL_RECORD (R152). WRITE of the Tunnel record sets the template, fix-ups, tunnel ids and strip length, with the fix-up test and admission recomputation. -/
  | writeTunnelRecord (t : Reading)
  /-- READ_ALLOWANCE_RECORD (R162). READ of the Allowance record returns total, used, the steps, their thresholds and the exhausted mark. -/
  | readAllowanceRecord (t : Reading)
  /-- WRITE_ALLOWANCE_RECORD (R162). WRITE of the Allowance record sets total and the steps and re-evaluates the allowance ceiling. -/
  | writeAllowanceRecord (t : Reading)
  /-- READ_STATUS_SNAPSHOT (R175). READ of the status snapshot returns it, and with the clear option clears the link and control error summaries. -/
  | readStatusSnapshot (t : Reading)
  /-- READ_COUNTERS (R175). READ of the counters returns counters by index, setting each returned counter to 0 with the clear option. -/
  | readCounters (t : Reading)
  /-- HOLD (R177). HOLD makes the table hold held and starts or restarts the hold timer. -/
  | hold (t : Reading)
  /-- RELEASE (R177). RELEASE makes the table hold free and stops the hold timer. -/
  | release (t : Reading)
  /-- BEGIN (R103). BEGIN sets begun to yes, recomputes the service mode and is an event of open demand. -/
  | beginService (t : Reading)
  /-- RESTART (R178). RESTART is answered OK and marks the forwarding state to be cleared once the frame's reply is written. -/
  | restart (t : Reading)
  /-- NEW_PERIOD (R168). NEW_PERIOD sets used to 0 and re-evaluates the allowance ceiling. -/
  | newPeriod (t : Reading)
  /-- SET_USED (R168). SET_USED sets used to the value given and re-evaluates the allowance ceiling. -/
  | setUsed (t : Reading)
  /-- REPLY_WRITE (R172). After the last request of a control frame, the reply is written to the priority FIFO and the frame's cells return. -/
  | replyWrite (t : Reading)
  /-- RESTART_ACT (R116). After the RESTART frame's reply is written, the forwarding state of every block is cleared in one event and the mode recomputed. -/
  | restartAct (t : Reading)
  /-- NOTICE_WRITE (R181). With causes pending, a notice address set, the spacing passed and room available, a notice frame is written and the cause set emptied. -/
  | noticeWrite (t : Reading)
  /-- NOTICE_SPACING_END (R181). The 100 ms spacing since the last notice ends and the notice test is made. -/
  | noticeSpacingEnd (t : Reading)
  /-- PREMISES_TRANSMIT_END (R53). A frame's transmission on the Premises port ends, its cells return, and the arbiter chooses the next eligible frame. -/
  | premisesTransmitEnd (t : Reading)
  /-- HEADER_ERROR (R79). A received record whose header check shows a double error, or which a delimiter ends within its first four bytes, is discarded as a header error and the receiver skips to the next delimiter. -/
  | headerError (t : Reading) (bytes : Bytes)
  /-- MODEM_OVER_LENGTH (R52). A record whose header gives a payload length above 1664 is discarded before any cell is taken, sets LENGTH, and the receiver skips to the next delimiter. -/
  | modemOverLength (t : Reading) (bytes : Bytes)
  /-- PAYLOAD_ERROR (R80). A received record that fails its payload check, or is cut short or overrun at its delimiter, is discarded with its cells returned and PAYLOAD set. -/
  | payloadError (t : Reading) (bytes : Bytes)
  /-- BAD_KIND_REQUEST (R172). A request with an unknown kind or table code, a kind that does not apply to the table named, or a non-DISCOVER request in a broadcast frame is refused BAD_KIND or BAD_TABLE and counted. -/
  | badKindRequest (t : Reading)
  deriving DecidableEq, Repr

end Sys2Proof
end

