-- ==== Sys2Proof/Config.lean ====
section
/-! DEFINITION. What the manual fixes for every part of this kind. -/

namespace Sys2Proof.Config

/-- The Cell Pool holds 2048 cells (R41). -/
def poolCells : Nat := 2048

/-- A cell is 128 bytes (00_scope.md, E). -/
def cellBytes : Nat := 128

/-- A frame occupies at most 12 cells: the longest accepted frame is 1536 bytes (00_scope.md, E). -/
def maxFrameCells : Nat := 12

/-- The shortest accepted frame (R44). -/
def minFrame : Nat := 60

/-- The longest accepted frame (00_scope.md, E). -/
def maxFrame : Nat := 1536

/-- The longest payload a record from the modem may carry: 13 cells (R52). -/
def maxRecordPayload : Nat := 1664

/-- The held list holds at most 64 frames (R117). -/
def heldFrames : Nat := 64

/-- The control queue and the priority FIFO hold at most 4 frames each (R49, R50). -/
def smallFifo : Nat := 4

/-- A counter holds at 4,294,967,295 when it reaches it (00_scope.md, E). -/
def counterTop : Nat := 4294967295

/-- `used` saturates at 2^40 - 1 (R165). -/
def usedTop : Nat := 1099511627775

/-- One allowance unit, MB, is 1,000,000 bytes (R166). -/
def megabyte : Nat := 1000000

/-- The rate estimate and its samples are held at 262,143 kbit/s (R134, R135). -/
def rateTop : Nat := 262143

/-- The silence timer of the Modem link, in milliseconds (R83). -/
def silenceTime : Nat := 1000

/-- The least time between two notices, in milliseconds (R181). -/
def noticeSpacing : Nat := 100

/-- The credit refill comes every 10 ms (R138). -/
def refillPeriod : Nat := 10

/-- The vendor code that DISCOVER returns (R176). -/
def vendorCode : Nat := 0x0A31

/-- The part code that DISCOVER returns (R176). -/
def partCode : Nat := 4620

/-- The revision that DISCOVER returns (R176). -/
def revision : Nat := 1

/-- The value of the part's one-time store in `State.reset` (R174 gives none).
DESIGN CHOICE, unsafe (log 3): the manual does not give a part's factory address. RESET_N keeps whatever address
the state holds, so no statement needs this value. -/
def factoryAddress : Addr := 0

/-- The rank of a table index among the moves that are cancelled at a time-base reading. A FREE VALUE (log 13): R128 lets
the cancellations of one event be taken in any order among themselves, and nothing constrains this function. -/
opaque cancelRank : Reading → Nat → Nat

end Sys2Proof.Config
end

