-- ==== Sys2Proof/Machine/State.lean ====
section
/-! DEFINITION. The state of the part, block by block (00_scope.md, C), and the part right after RESET_N.
Every field is plain data. The model's own fields, which the manual does not name, are `due` (log 4),
`Execution` (log 7), `restartDue` (log 8), `UpFrame.waited` (log 21) and `pending` (log 2). -/

namespace Sys2Proof.Machine

/-- The upstream path of a flow (R21). -/
inductive Uplink where
  | fibre
  | radio
  deriving DecidableEq, Repr

/-- The fibre state (R58). -/
inductive FibreState where
  | up
  | suspect
  | down
  | recovering
  deriving DecidableEq, Repr

/-- The radio state (R88). `opened` is the manual's OPEN. -/
inductive RadioState where
  | absent
  | searching
  | ready
  | opening
  | opened
  | linger
  | closing
  deriving DecidableEq, Repr

/-- The service mode (R99). -/
inductive Mode where
  | pass
  | hold
  | normal
  | fallback
  | isolated
  deriving DecidableEq, Repr

/-- The manager's force setting (R105). -/
inductive Force where
  | none
  | radio
  | fibre
  deriving DecidableEq, Repr

/-- The steering rule of a class (R17). -/
inductive Policy where
  | follow
  | sticky
  | fibreOnly
  deriving DecidableEq, Repr

/-- A bearer record toward the modem (R77). -/
inductive BearerRecord where
  | bearerOpen
  | bearerClose
  deriving DecidableEq, Repr

/-- The kind of a flow key (R7). -/
inductive KeyKind where
  | ipv4
  | ipv6
  | nonIp
  deriving DecidableEq, Repr

/-- An upstream frame that the part has received whole and keeps. Its cell count is fixed by its length (R42). -/
structure UpFrame where
  /-- The bytes received on the Premises port, without the frame check sequence. -/
  data : Bytes
  /-- The class the frame carries, absent for an unclassified frame of PASS (R101). -/
  cls : Option TrafficClass
  /-- The time-base reading when its last byte was received (R44). -/
  arrival : Reading
  /-- The table index of its entry, absent for an unlearned or unclassified frame (R30). -/
  flow : Option Nat
  /-- Its wait for balance in the staged slot has been counted (R146). The frame keeps the mark when it is unstaged, so
  a later staging counts no second wait (log 21). -/
  waited : Bool := false
  deriving DecidableEq, Repr

/-- A receive assembly of an Ethernet port: the cells taken for the frame now arriving (R44, R51). -/
structure Assembly where
  cells : Nat
  /-- The arriving frame was discarded and the rest of it is received and ignored (R44). -/
  ignoring : Bool
  deriving DecidableEq, Repr

/-! ## The loaded tables and records -/

/-- The Station record (R174), without the factory address, which RESET_N keeps. -/
structure Station where
  controlType : Nat
  address : Addr
  noticeAddress : Addr
  largestReply : Nat
  defaultClass : TrafficClass
  managerCeiling : Nat
  reserveCeiling : Nat
  force : Force
  /-- In seconds. -/
  holdTimeout : Nat
  reserveFloor : Nat
  fibreLimit : Nat
  downstreamLimit : Nat
  deriving DecidableEq, Repr

/-- A range of a match field, both ends included (R8). -/
structure MatchRange where
  low : Nat
  high : Nat
  deriving DecidableEq, Repr

/-- A rule of the Class Rule Table (R8). An absent match field holds no value. -/
structure Rule where
  valid : Bool
  etherType : Option Nat
  protocol : Option Nat
  dscp : Option MatchRange
  sourcePort : Option MatchRange
  destPort : Option MatchRange
  vlan : Option MatchRange
  result : TrafficClass
  matchCount : Nat
  deriving DecidableEq, Repr

/-- An entry of the Class Table (R17). -/
structure ClassEntry where
  level : Nat
  weight : Nat
  /-- In cells. -/
  burst : Nat
  /-- In cells. -/
  queueLimit : Nat
  /-- In units of 10 ms; 0 is none. -/
  sojournLimit : Nat
  /-- In milliseconds. -/
  drainTime : Nat
  /-- In seconds; 0 keeps the class's flows unlearned. -/
  idleTimeout : Nat
  policy : Policy
  exempt : Bool
  deriving DecidableEq, Repr

/-- The Probe record (R59). -/
structure ProbeRecord where
  destination : Addr
  etherType : Nat
  token : BitVec 128
  /-- In units of 100 ms. -/
  interval : Nat
  missLimit : Nat
  restoreCount : Nat
  /-- In seconds. -/
  baseHoldDown : Nat
  /-- In minutes. -/
  calmPeriod : Nat
  deriving DecidableEq, Repr

/-- The Radio record (R95). Times in seconds. -/
structure RadioRecord where
  linger : Nat
  reserveLinger : Nat
  openTimeout : Nat
  retryInterval : Nat
  riseShift : Nat
  fallShift : Nat
  /-- In sixteenths. -/
  headroom : Nat
  runLimit : Nat
  preOpen : Bool
  deriving DecidableEq, Repr

/-- The Tunnel record (R151). Template byte 0 is the most significant byte of `template`. -/
structure TunnelRecord where
  templateLength : Nat
  template : BitVec 512
  fixA : Option Nat
  fixB : Option Nat
  fixChecksum : Option Nat
  upstreamId : Nat
  downstreamId : Nat
  stripLength : Nat
  deriving DecidableEq, Repr

/-- A step of the Allowance record (R162). -/
structure AllowanceStep where
  /-- In sixteenths of the total. -/
  fraction : Nat
  ceiling : Nat
  deriving DecidableEq, Repr

/-- The Allowance record and the allowance ceiling (R162, R166). -/
structure Allowance where
  /-- In megabytes; 0 is unmetered. -/
  total : Nat
  /-- In bytes. -/
  used : Nat
  steps : Vector AllowanceStep 4
  ceiling : Nat
  deriving DecidableEq, Repr

/-! ## The Flow Table -/

/-- A move in progress (R21, R117). An entry is DRAINING exactly while it holds one. -/
structure Move where
  target : Uplink
  deadline : Reading
  /-- The deadline timer has expired and the flow waits for frames committed to the wire (R125). -/
  overdue : Bool
  deriving DecidableEq, Repr

/-- A flow entry in use (R21). -/
structure FlowEntry where
  key : Bytes
  cls : TrafficClass
  uplink : Uplink
  lastSeen : Nat
  fibrePending : Nat
  radioPending : Nat
  held : Nat
  move : Option Move
  deriving DecidableEq, Repr

/-! ## The ports, the links and their machines -/

/-- The latest probe issued and not yet judged (R58). -/
structure Outstanding where
  sequence : Nat
  hit : Bool
  deriving DecidableEq, Repr

/-- The Fibre Path Monitor (R58). -/
structure Monitor where
  state : FibreState
  misses : Nat
  hits : Nat
  flapCount : Nat
  deadline : Option Reading
  calmStart : Option Reading
  nextSequence : Nat
  outstanding : Option Outstanding
  nextProbe : Option Reading
  deriving DecidableEq, Repr

/-- What the Fibre port is sending (R46, R63). -/
inductive FibreTransmission where
  | frame (f : UpFrame)
  | probe (bytes : Bytes)
  deriving DecidableEq, Repr

/-- The Fibre Port Unit: its egress queue, the transmission, and a probe that waits for its turn (R46, R63). -/
structure FibrePort where
  queue : List UpFrame
  sending : Option FibreTransmission
  waitingProbe : Option Bytes
  deriving DecidableEq, Repr

/-- The modem receive assembly (R52, R81). -/
structure ModemAssembly where
  cells : Nat
  /-- A header correction of the arriving record has been counted (R79). -/
  headCounted : Bool
  /-- The receiver ignores every byte up to the next delimiter (R79, R81). -/
  skipping : Bool
  /-- The link went down while the payload of the arriving record was being taken: its cells have returned (R84), it takes
  no more, and it is judged at its end like any other record (R83, log 30). -/
  released : Bool := false
  deriving DecidableEq, Repr

/-- The link error summary (R96). -/
structure LinkErrors where
  corrected : Bool
  header : Bool
  length : Bool
  payload : Bool
  kind : Bool
  range : Bool
  lost : Bool
  deriving DecidableEq, Repr

/-- The receive side of the Modem Link Unit (R81, R83, R96). The silence timer holds the reading at which it
expires. -/
structure ModemLink where
  up : Bool
  silence : Option Reading
  assembly : ModemAssembly
  errors : LinkErrors
  deriving DecidableEq, Repr

/-- The record in transfer on the Modem link, with its bytes as built (R85, R153). `carrier` is the payload length
of a DATA record. -/
inductive Transfer where
  | bearer (kind : BearerRecord) (bytes : Bytes)
  | data (frame : UpFrame) (carrier : Nat) (bytes : Bytes)
  deriving DecidableEq, Repr

/-- The transmit side of the Modem Link Unit: the bearer record slot, the staged slot and the record in transfer
(5, section C). -/
structure ModemSender where
  bearerSlot : Option BearerRecord
  staged : Option UpFrame
  transfer : Option Transfer
  deriving DecidableEq, Repr

/-- The Radio Bearer Controller (R88 to R93). Each running timer holds the reading at which it expires. -/
structure Bearer where
  state : RadioState
  openTimer : Option Reading
  lingerTimer : Option Reading
  closingTimer : Option Reading
  retryTimer : Option Reading
  deriving DecidableEq, Repr

/-- The Radio Lane Scheduler (R132). U, the two ceilings, admission and the refill's running follow from other state
and are functions of it (log 9). -/
structure Scheduler where
  queues : Vector (List UpFrame) 8
  credit : Vector Int 8
  balance : Nat
  estimate : Nat
  sampled : Bool
  runClass : Option TrafficClass
  runCount : Nat
  deriving DecidableEq, Repr

/-- The Carrier Unit (R156, R158). An expected sequence whose mark is unset is absent. -/
structure Carrier where
  upstreamSequence : Nat
  expected : Option Nat
  deriving DecidableEq, Repr

/-! ## Steering, the pool, the Premises port and the Control Unit -/

/-- The inputs of the service mode that the Steering Controller keeps itself (R99). -/
structure Steering where
  strapHigh : Bool
  begun : Bool
  reserve : Bool
  deriving DecidableEq, Repr

/-- The service mode, the fibre-out mark and RADIO_LAMP (R99). -/
structure Service where
  mode : Mode
  fibreOut : Bool
  lamp : Bool
  deriving DecidableEq, Repr

/-- The free count and the pool-low mark of the Cell Pool (R41, R54). -/
structure Pool where
  free : Nat
  low : Bool
  deriving DecidableEq, Repr

/-- The FIFO whose head the Premises port is sending (R53). -/
inductive PremisesSource where
  | priority
  | fibre
  | radio
  deriving DecidableEq, Repr

/-- The egress side of the Premises Port Unit: the priority FIFO, the transmission and the last-served mark (R53).
A frame stays at the head of its FIFO until its transmission ends. -/
structure Egress where
  priority : List Bytes
  sending : Option PremisesSource
  lastServed : Uplink
  deriving DecidableEq, Repr

/-- The downstream FIFOs and the assemblies at their tails (R41, R51). -/
structure Downstream where
  fibre : List Bytes
  radio : List Bytes
  deriving DecidableEq, Repr

/-- A request of a control frame, as its 13-byte head and its data give it (R171, R173). -/
structure Request where
  kind : Nat
  table : Nat
  index : Nat
  count : Nat
  options : Nat
  select : Nat
  data : Bytes
  deriving DecidableEq, Repr

/-- The status of a request (R172). -/
inductive Status where
  | ok
  | clamped
  | range
  | badKind
  | badTable
  | notHeld
  | busy
  | truncated
  deriving DecidableEq, Repr

/-- The result of a request in the reply (R172). -/
structure Result where
  status : Status
  kind : Nat
  count : Nat
  data : Bytes
  deriving DecidableEq, Repr

/-- The control frame that the Control Unit is executing (R172): the requests still to execute, the results so far,
and the reply's size and cells as they stood when it began (R49). -/
structure Execution where
  todo : List Request
  results : List Result
  requests : Nat
  largest : Nat
  replyCells : Nat
  broadcast : Bool
  restart : Bool
  deriving DecidableEq, Repr

/-- The control error summary (R179). -/
structure ControlErrors where
  malformed : Bool
  queueFull : Bool
  holdLapsed : Bool
  deriving DecidableEq, Repr

/-- The Control Unit (R49, R172, R177, R179). The table hold is held exactly while the hold timer runs, and `hold` is
the reading at which it expires. -/
structure Control where
  queue : List Bytes
  execution : Option Execution
  /-- The reply of a frame with a RESTART has been written and RESTART has not yet acted (R178). -/
  restartDue : Bool
  hold : Option Reading
  errors : ControlErrors
  deriving DecidableEq, Repr

/-- The pending cause set (R180). -/
structure Causes where
  mode : Bool
  fibre : Bool
  radio : Bool
  reserve : Bool
  allowance : Bool
  hold : Bool
  link : Bool
  pool : Bool
  deriving DecidableEq, Repr

/-- The pending causes and the time of the last notice (R180, R181). -/
structure Notices where
  causes : Causes
  last : Option Reading
  deriving DecidableEq, Repr

/-- What the event being taken still owes before it ends (log 4): the model's own bookkeeping, empty between events. -/
structure Due where
  /-- A recomputation of the service mode (R104). -/
  mode : Bool
  /-- A selection (R143). -/
  select : Bool
  /-- A test whether a transfer can begin (R85). -/
  transfer : Bool
  /-- A test whether a transmission on the Fibre port can begin (R46). -/
  fibre : Bool
  /-- A choice of the premises egress arbiter (R53). -/
  premises : Bool
  /-- A notice test (R181). -/
  notice : Bool
  deriving DecidableEq, Repr

/-! ## The state -/

/-- The part. -/
structure State where
  now : Reading
  lightLost : Bool
  factory : Addr
  station : Station
  rules : Vector Rule 64
  classes : Vector ClassEntry 8
  flows : List (Nat × FlowEntry)
  monitor : Monitor
  probe : ProbeRecord
  fibre : FibrePort
  fibreAssembly : Assembly
  link : ModemLink
  sender : ModemSender
  lastSignal : Nat
  bearer : Bearer
  radio : RadioRecord
  scheduler : Scheduler
  tunnel : TunnelRecord
  carrier : Carrier
  allowance : Allowance
  steering : Steering
  service : Service
  held : List UpFrame
  pool : Pool
  premisesAssembly : Assembly
  egress : Egress
  downstream : Downstream
  control : Control
  notices : Notices
  counters : List (Nat × Nat)
  due : Due
  pending : List Instr
  deriving DecidableEq, Repr

/-- The reasons the part could stop with a fault. The manual gives none: every command, in every state, has an effect
or none at all, and no meaning of this model stops. The type is empty. -/
inductive Fault where
  deriving DecidableEq, Repr

/-- The reasons a command could be refused. -/
inductive Refusal where
  /-- Raised by `exec` alone, for a row of the table without a meaning. Safe: the part goes on and the model stops.
  No arm of this model raises it. -/
  | notModelled (mnemonic : String)
  deriving DecidableEq, Repr

/-! ## Reset -/

/-- A rule after RESET_N (R8). -/
def Rule.reset : Rule :=
  { valid := false, etherType := none, protocol := none, dscp := none, sourcePort := none, destPort := none,
    vlan := none, result := 0, matchCount := 0 }

/-- A Class Table entry after RESET_N (R17). -/
def ClassEntry.reset : ClassEntry :=
  { level := 7, weight := 64, burst := 12, queueLimit := 64, sojournLimit := 0, drainTime := 50, idleTimeout := 60,
    policy := .follow, exempt := false }

/-- The Station record after RESET_N: the station address is the factory address (R174). -/
def Station.reset (factory : Addr) : Station :=
  { controlType := 0x9A21, address := factory, noticeAddress := 0, largestReply := 512, defaultClass := 5,
    managerCeiling := 7, reserveCeiling := 2, force := .none, holdTimeout := 5, reserveFloor := 128,
    fibreLimit := 256, downstreamLimit := 512 }

/-- The Probe record after RESET_N (R59). -/
def ProbeRecord.reset : ProbeRecord :=
  { destination := 0, etherType := 0x9A22, token := 0, interval := 10, missLimit := 3, restoreCount := 5,
    baseHoldDown := 10, calmPeriod := 30 }

/-- The Radio record after RESET_N (R95). -/
def RadioRecord.reset : RadioRecord :=
  { linger := 10, reserveLinger := 2, openTimeout := 5, retryInterval := 15, riseShift := 3, fallShift := 1,
    headroom := 14, runLimit := 8, preOpen := false }

/-- The Tunnel record after RESET_N (R151). -/
def TunnelRecord.reset : TunnelRecord :=
  { templateLength := 0, template := 0, fixA := none, fixB := none, fixChecksum := none, upstreamId := 0,
    downstreamId := 0, stripLength := 0 }

/-- The Allowance record and ceiling after RESET_N (R162, R166). -/
def Allowance.reset : Allowance :=
  { total := 0, used := 0, steps := Vector.replicate 4 { fraction := 16, ceiling := 7 }, ceiling := 7 }

/-- The Fibre Path Monitor after RESET_N, by the light line (R58). The time base then reads 0 (R22). -/
def Monitor.reset (lightLost : Bool) : Monitor :=
  { state := if lightLost then .down else .up, misses := 0, hits := 0, flapCount := 0,
    deadline := if lightLost then some (ProbeRecord.reset.baseHoldDown * 1000) else none,
    calmStart := if lightLost then none else some 0, nextSequence := 0, outstanding := none, nextProbe := none }

/-- The Radio Lane Scheduler after RESET_N (R132). -/
def Scheduler.reset : Scheduler :=
  { queues := Vector.replicate 8 [], credit := Vector.replicate 8 0, balance := 0, estimate := 0, sampled := false,
    runClass := none, runCount := 0 }

/-- No receive assembly holds a cell. -/
def Assembly.empty : Assembly := { cells := 0, ignoring := false }

/-- No record is arriving. -/
def ModemAssembly.empty : ModemAssembly := { cells := 0, headCounted := false, skipping := false }

/-- A clear link error summary (R96). -/
def LinkErrors.clear : LinkErrors :=
  { corrected := false, header := false, length := false, payload := false, kind := false, range := false,
    lost := false }

/-- A clear control error summary (R179). -/
def ControlErrors.clear : ControlErrors := { malformed := false, queueFull := false, holdLapsed := false }

/-- An empty cause set (R180). -/
def Causes.empty : Causes :=
  { mode := false, fibre := false, radio := false, reserve := false, allowance := false, hold := false, link := false,
    pool := false }

/-- Nothing is owed. -/
def Due.nothing : Due :=
  { mode := false, select := false, transfer := false, fibre := false, premises := false, notice := false }

/-- The link down and no timer running (R83). -/
def ModemLink.down : ModemLink :=
  { up := false, silence := none, assembly := ModemAssembly.empty, errors := LinkErrors.clear }

/-- ABSENT with every bearer timer stopped (R88). -/
def Bearer.absent : Bearer :=
  { state := .absent, openTimer := none, lingerTimer := none, closingTimer := none, retryTimer := none }

/-- The part when RESET_N ends, for the levels of START, LIGHT_LOST and ON_RESERVE at that moment and the address in
the part's one-time store (R57, R58, R99, and each chapter's reset values). The ceilings are computed from it (log 28),
and what was arriving at that moment is passed over by `execResetN` (log 29). -/
def State.afterReset (strapHigh lightLost onReserve : Bool) (factory : Addr) : State :=
  { now := 0
    lightLost := lightLost
    factory := factory
    station := Station.reset factory
    rules := Vector.replicate 64 Rule.reset
    classes := Vector.replicate 8 ClassEntry.reset
    flows := []
    monitor := Monitor.reset lightLost
    probe := ProbeRecord.reset
    fibre := { queue := [], sending := none, waitingProbe := none }
    fibreAssembly := Assembly.empty
    link := ModemLink.down
    sender := { bearerSlot := none, staged := none, transfer := none }
    lastSignal := 0
    bearer := Bearer.absent
    radio := RadioRecord.reset
    scheduler := Scheduler.reset
    tunnel := TunnelRecord.reset
    carrier := { upstreamSequence := 0, expected := none }
    allowance := Allowance.reset
    steering := { strapHigh := strapHigh, begun := false, reserve := onReserve }
    service := { mode := if strapHigh then .pass else .hold, fibreOut := false, lamp := false }
    held := []
    pool := { free := Config.poolCells, low := false }
    premisesAssembly := Assembly.empty
    egress := { priority := [], sending := none, lastServed := .radio }
    downstream := { fibre := [], radio := [] }
    control := { queue := [], execution := none, restartDue := false, hold := none, errors := ControlErrors.clear }
    notices := { causes := Causes.empty, last := none }
    counters := []
    due := Due.nothing
    pending := [] }

/-- The part right after RESET_N, on a board strapped low, with light present and mains power, and no command waiting.
DESIGN CHOICE, unsafe (log 3): the manual leaves the strap and the two lines to the board. `Instr.resetN` carries all
three levels, so every other case is one command away. -/
def State.reset : State := State.afterReset false false false Config.factoryAddress

end Sys2Proof.Machine
end

