-- ==== Sys2Proof/Machine/Operands.lean ====
section
/-! DEFINITION. Reading and writing the fields of frames, records, requests and replies: byte order, ones-complement
sums, the header check, cell counts, clamping and the field coding of "Formats on the wire" (chapter 11). -/

namespace Sys2Proof.Machine

/-! ## Numbers on the wire -/

/-- The number that bytes spell, most significant byte first (00_scope.md, E). -/
def beNat (bs : Bytes) : Nat := bs.foldl (fun acc b => acc * 256 + b.toNat) 0

/-- The low `n` bytes of a number, most significant byte first. -/
def beBytes : Nat → Nat → Bytes
  | 0, _ => []
  | n + 1, v => beBytes n (v / 256) ++ [BitVec.ofNat 8 v]

/-- The `n` bytes at an offset; fewer where the bytes end sooner. -/
def slice (offset n : Nat) (bs : Bytes) : Bytes := (bs.drop offset).take n

/-- The number in the `n` bytes at an offset. -/
def field (offset n : Nat) (bs : Bytes) : Nat := beNat (slice offset n bs)

/-- The bytes with those at an offset replaced. -/
def overwrite (offset : Nat) (new bs : Bytes) : Bytes := bs.take offset ++ new ++ bs.drop (offset + new.length)

/-- The bytes filled with zero bytes to a least length. -/
def padTo (n : Nat) (bs : Bytes) : Bytes := bs ++ List.replicate (n - bs.length) 0

/-- An address read at an offset. -/
def addrField (offset : Nat) (bs : Bytes) : Addr := BitVec.ofNat 48 (field offset 6 bs)

/-- The six bytes of an address. -/
def addrBytes (a : Addr) : Bytes := beBytes 6 a.toNat

/-- The broadcast address, all ones (R170). -/
def broadcastAddr : Addr := BitVec.allOnes 48

/-! ## Ones-complement arithmetic (R23, R80, R155) -/

/-- 16-bit addition with the carry out of the top bit added back into the lowest. -/
def onesAdd (a b : Nat) : Nat :=
  let sum := a + b
  if sum < 65536 then sum else sum - 65535

/-- The complement of a 16-bit value. -/
def onesNot (a : Nat) : Nat := 65535 - a

/-- The ones-complement sum, from a start value, of bytes read as 16-bit words, an odd last byte padded with 0x00. -/
def onesSumFrom : Nat → Bytes → Nat
  | acc, [] => acc
  | acc, [b] => onesAdd acc (b.toNat * 256)
  | acc, a :: b :: rest => onesSumFrom (onesAdd acc (a.toNat * 256 + b.toNat)) rest

/-- The 16-bit ones-complement sum of bytes. -/
def onesSum (bs : Bytes) : Nat := onesSumFrom 0 bs

/-! ## Cells -/

/-- The cells that `n` bytes occupy (00_scope.md, E). -/
def cellsFor (n : Nat) : Nat := (n + (Config.cellBytes - 1)) / Config.cellBytes

/-- The cells of a frame. -/
def UpFrame.cells (f : UpFrame) : Nat := cellsFor f.data.length

/-- The cells that a list of upstream frames holds. -/
def cellsOf (fs : List UpFrame) : Nat := (fs.map UpFrame.cells).sum

/-- The cells that a list of downstream, reply or control frames holds. -/
def byteCells (fs : List Bytes) : Nat := (fs.map fun b => cellsFor b.length).sum

/-! ## The records of the Modem link (R77 to R80) -/

/-- The kind codes of R77. -/
def kindDataUp : Nat := 0x01
def kindBearerOpen : Nat := 0x02
def kindBearerClose : Nat := 0x03
def kindDataDown : Nat := 0x81
def kindStatus : Nat := 0x82
def kindGrant : Nat := 0x83

/-- The codes c_0 to c_23 of the header bits (R78). -/
def headerCodes : List Nat :=
  [3, 5, 6, 7, 9, 10, 11, 12, 13, 14, 15, 17, 18, 19, 20, 21, 22, 23, 24, 25, 26, 27, 28, 29]

/-- The syndrome of 24 header bits: the exclusive-or of the codes of the bits that are 1 (R78). -/
def syndrome (header : BitVec 24) : Nat :=
  (List.range 24).foldl (fun acc i => if header.getLsbD i then acc ^^^ headerCodes.getD i 0 else acc) 0

/-- How many of the low `n` bits of a number are 1. -/
def onesCount (n v : Nat) : Nat := ((List.range n).filter v.testBit).length

/-- The header check byte of a header (R78). -/
def headerCheck (header : BitVec 24) : Nat :=
  let syn := syndrome header
  let parity := (onesCount 24 header.toNat + onesCount 5 syn) % 2
  syn + 128 * parity

/-- What the header check of a received record shows (R79). -/
inductive HeaderOutcome where
  | good (header : BitVec 24)
  | corrected (header : BitVec 24)
  | error
  deriving DecidableEq, Repr

/-- The decoding of a received header and its check byte (R79). -/
def decodeHeader (header : BitVec 24) (check : Nat) : HeaderOutcome :=
  let s := syndrome header ^^^ (check % 32)
  let ones := onesCount 24 header.toNat + onesCount 5 (check % 32) + (check / 128) % 2
  if ones % 2 = 0 then
    if s = 0 then .good header else .error
  else
    match headerCodes.findIdx? (· = s) with
    | some i => .corrected (header ^^^ (1#24 <<< i))
    | none => if s = 30 ∨ s = 31 then .error else .corrected header

/-- The payload check that the part sends with a payload (R80). -/
def payloadCheck (payload : Bytes) : Nat := onesNot (onesSum payload)

/-- A received payload and its received check agree (R80). The sum of the payload's words is added to the check. -/
def payloadCheckHolds (payload : Bytes) (check : Nat) : Bool := onesAdd (onesSum payload) check = 65535

/-- The 24 header bits of a record: the kind, then the payload length (R77). -/
def headerOf (kind length : Nat) : BitVec 24 := BitVec.ofNat 24 (kind * 65536 + length)

/-- A record as the part sends it between delimiters (R77, "Modem record" in Formats on the wire). -/
def recordBytes (kind : Nat) (payload : Bytes) : Bytes :=
  let header := headerOf kind payload.length
  beBytes 3 header.toNat ++ beBytes 1 (headerCheck header) ++ payload ++ beBytes 2 (payloadCheck payload)

/-- What the bytes of a received record amount to by R81, before its contents are tested by R82. `corrected` says that
the header check corrected the header. -/
inductive RecordOutcome where
  /-- No byte: a run of delimiters, which carries no record (R77). -/
  | nothing
  | headerError
  | overLength (corrected : Bool)
  | payloadError (corrected : Bool)
  | unknownKind (corrected : Bool) (length : Nat)
  | status (corrected : Bool) (payload : Bytes)
  | grant (corrected : Bool) (payload : Bytes)
  | data (corrected : Bool) (payload : Bytes)
  deriving DecidableEq, Repr

/-- Steps 2 to 5 of R81, after the header check. `rest` holds the bytes after the fourth. -/
def judgeBody (corrected : Bool) (header : BitVec 24) (rest : Bytes) : RecordOutcome :=
  let length := header.toNat % 65536
  let kind := header.toNat / 65536
  let payload := rest.take length
  if length > Config.maxRecordPayload then .overLength corrected
  else if rest.length ≠ length + 2 then .payloadError corrected
  else if !payloadCheckHolds payload (beNat (rest.drop length)) then .payloadError corrected
  else if kind = kindStatus then .status corrected payload
  else if kind = kindGrant then .grant corrected payload
  else if kind = kindDataDown then .data corrected payload
  else .unknownKind corrected length

/-- Steps 1 to 5 of R81 on the bytes received since the last delimiter. With none there is no record (R77). -/
def judgeRecord (bytes : Bytes) : RecordOutcome :=
  if bytes = [] then .nothing
  else if bytes.length < 4 then .headerError
  else match decodeHeader (BitVec.ofNat 24 (field 0 3 bytes)) (field 3 1 bytes) with
    | .error => .headerError
    | .good header => judgeBody false header (bytes.drop 4)
    | .corrected header => judgeBody true header (bytes.drop 4)

/-! ## Clamping and field-select writes (00_scope.md, E; R173) -/

/-- The nearest value of a range, both ends included. -/
def clampTo (lo hi v : Nat) : Nat := max lo (min hi v)

/-- A field that a WRITE may select: the value it takes, and whether the written value was changed. -/
def writeNat (old : Nat) (written : Option Bytes) (lo hi : Nat) : Nat × Bool :=
  match written with
  | none => (old, false)
  | some bs => (clampTo lo hi (beNat bs), clampTo lo hi (beNat bs) ≠ beNat bs)

/-- A class field that a WRITE may select; a value above 7 takes 7. -/
def writeClass (old : TrafficClass) (written : Option Bytes) : TrafficClass × Bool :=
  match written with
  | none => (old, false)
  | some bs => (if h : beNat bs < 8 then ⟨beNat bs, h⟩ else 7, decide (7 < beNat bs))

/-- A yes/no field: 0 is no and any other code is yes; a code above 1 is clamped to 1 (log 16). -/
def writeFlag (old : Bool) (written : Option Bytes) : Bool × Bool :=
  match written with
  | none => (old, false)
  | some bs => (beNat bs ≠ 0, decide (1 < beNat bs))

/-- The present mark of an optional field and its value bytes (R15, "optional field" in the field coding). A mark above
1 is clamped to 1 (log 16). -/
def writeOptional {α : Type} (old : Option α) (written : Option Bytes) (value : Bytes → α × Bool) :
    Option α × Bool :=
  match written with
  | none => (old, false)
  | some bs =>
    let mark := field 0 1 bs
    if mark = 0 then (none, false)
    else (some (value (bs.drop 1)).1, (value (bs.drop 1)).2 || decide (1 < mark))

/-- A number inside an optional field. -/
def boundedNat (lo hi : Nat) (bs : Bytes) : Nat × Bool :=
  (clampTo lo hi (beNat bs), clampTo lo hi (beNat bs) ≠ beNat bs)

/-- A range inside an optional field, each end in `size` bytes: each end is clamped, and a low value above the high
value takes the high value (R15). -/
def boundedRange (size hi : Nat) (bs : Bytes) : MatchRange × Bool :=
  let low := beNat (bs.take size)
  let high := beNat (slice size size bs)
  let low' := min hi low
  let high' := min hi high
  ({ low := min low' high', high := high' },
    decide (low' ≠ low) || decide (high' ≠ high) || decide (high' < low'))

/-- The value bytes of each field of an entry, in field order: absent for a field not selected; no list at all where
the data is too short for the selected fields (R173). `i` is the number of the first field of `sizes`. -/
def selectFields : List Nat → Nat → Nat → Bytes → Option (List (Option Bytes))
  | [], _, _, _ => some []
  | size :: sizes, i, select, data =>
    if select.testBit i then
      if data.length < size then none
      else (selectFields sizes (i + 1) select (data.drop size)).map (some (data.take size) :: ·)
    else (selectFields sizes (i + 1) select data).map (none :: ·)

/-- The field at a place in the list of `selectFields`. -/
def fieldAt (fields : List (Option Bytes)) (i : Nat) : Option Bytes := (fields[i]?).getD none

/-- The sizes of the fields of the Station record in WRITE data, in the order of R174. -/
def stationSizes : List Nat := [2, 6, 6, 6, 2, 1, 1, 1, 1, 1, 2, 2, 2]

/-- The sizes of the fields of a rule, in the order of R8. -/
def ruleSizes : List Nat := [1, 3, 2, 3, 5, 5, 3, 1, 4]

/-- The sizes of the fields of a Class Table entry, in the order of R17. -/
def classSizes : List Nat := [1, 1, 1, 2, 1, 1, 1, 1, 1]

/-- The sizes of the fields of the Probe record, in the order of R59. -/
def probeSizes : List Nat := [6, 2, 16, 1, 1, 1, 1, 1]

/-- The sizes of the fields of the Radio record, in the order of R95. -/
def radioSizes : List Nat := [1, 1, 1, 1, 1, 1, 1, 1, 1]

/-- The sizes of the fields of the Tunnel record, in the order of R151. -/
def tunnelSizes : List Nat := [1, 64, 2, 2, 2, 2, 2, 1]

/-- The sizes of the fields of the Allowance record, in the order of R173. -/
def allowanceSizes : List Nat := [2, 5, 1, 1, 1, 1, 1, 1, 1, 1]

/-! ## The coding of entries in READ data -/

/-- A yes/no field: 1 is yes (log 16). -/
def flagByte (b : Bool) : Bytes := [if b then 1 else 0]

/-- An optional field: its present byte, then its value, zero when absent. -/
def optionalBytes (size : Nat) (v : Option Nat) : Bytes :=
  match v with
  | none => List.replicate (size + 1) 0
  | some x => 1 :: beBytes size x

/-- An optional range, each end in `size` bytes. -/
def rangeBytes (size : Nat) (r : Option MatchRange) : Bytes :=
  match r with
  | none => List.replicate (2 * size + 1) 0
  | some x => 1 :: (beBytes size x.low ++ beBytes size x.high)

def Uplink.code : Uplink → Nat
  | .fibre => 0
  | .radio => 1

def FibreState.code : FibreState → Nat
  | .up => 0
  | .suspect => 1
  | .down => 2
  | .recovering => 3

def RadioState.code : RadioState → Nat
  | .absent => 0
  | .searching => 1
  | .ready => 2
  | .opening => 3
  | .opened => 4
  | .linger => 5
  | .closing => 6

def Mode.code : Mode → Nat
  | .pass => 0
  | .hold => 1
  | .normal => 2
  | .fallback => 3
  | .isolated => 4

def Force.code : Force → Nat
  | .none => 0
  | .radio => 1
  | .fibre => 2

/-- The force setting of a code; a code above 2 takes FIBRE (R105). -/
def Force.ofCode : Nat → Force
  | 0 => .none
  | 1 => .radio
  | _ => .fibre

def Policy.code : Policy → Nat
  | .follow => 0
  | .sticky => 1
  | .fibreOnly => 2

/-- The policy of a code; any code other than the three named takes FIBRE_ONLY (R18). -/
def Policy.ofCode : Nat → Policy
  | 0 => .follow
  | 1 => .sticky
  | _ => .fibreOnly

def KeyKind.code : KeyKind → Nat
  | .ipv4 => 0
  | .ipv6 => 1
  | .nonIp => 2

def Status.code : Status → Nat
  | .ok => 0
  | .clamped => 1
  | .range => 2
  | .badKind => 3
  | .badTable => 4
  | .notHeld => 5
  | .busy => 6
  | .truncated => 7

/-- The kind of a key image, by its kind byte (R7). -/
def keyKind (image : Bytes) : KeyKind :=
  match image with
  | k :: _ => if k = 4 then .ipv4 else if k = 6 then .ipv6 else .nonIp
  | [] => .nonIp

/-- A key image in a READ: its length byte, then 40 bytes, zero-filled. -/
def keyImageBytes (image : Bytes) : Bytes := beBytes 1 image.length ++ padTo 40 image

/-- The bits of a set, bit 0 first. -/
def bitsNat : List Bool → Nat
  | [] => 0
  | b :: bs => (if b then 1 else 0) + 2 * bitsNat bs

end Sys2Proof.Machine
end

