-- ==== Sys2Proof/Machine/Flags.lean ====
section
/-! DEFINITION. The counters by their indexes (R175), and the sets of flags: pending causes, link errors, control
errors. -/

namespace Sys2Proof.Machine

/-! ## The indexes of the counters: 128 times the set number, plus the position in the rule's table (R175) -/

/-- Set 0, the Classifier (R19). -/
def ctrRuleMiss : Nat := 0
def ctrHeaderFaults : Nat := 1

/-- Set 1, the Flow Table (R40). -/
def ctrLearned : Nat := 128
def ctrEvicted : Nat := 129
def ctrAged : Nat := 130
def ctrLearnFails : Nat := 131
def ctrUnlearned : Nat := 132

/-- Set 2, the Cell Pool: the eight counters of a class (R55). -/
def ctrDropNotAdmitted (c : TrafficClass) : Nat := 256 + 8 * c.val
def ctrDropQueueFull (c : TrafficClass) : Nat := 257 + 8 * c.val
def ctrDropPoolFloor (c : TrafficClass) : Nat := 258 + 8 * c.val
def ctrDropSojourn (c : TrafficClass) : Nat := 259 + 8 * c.val
def ctrDropFibreOnly (c : TrafficClass) : Nat := 260 + 8 * c.val
def ctrDropHeldFull (c : TrafficClass) : Nat := 261 + 8 * c.val
def ctrDiscardOnDrain (c : TrafficClass) : Nat := 262 + 8 * c.val
def ctrFlushed (c : TrafficClass) : Nat := 263 + 8 * c.val

/-- Set 2, the Cell Pool: the class-independent counters, from position 64 (R56). -/
def ctrPremisesShortage : Nat := 320
def ctrOverLength : Nat := 321
def ctrUnderLength : Nat := 322
def ctrFrameCheck : Nat := 323
def ctrUnclassified : Nat := 324
def ctrControlQueueFull : Nat := 325
def ctrFibreRefused : Nat := 326
def ctrModemOverLength : Nat := 327
def ctrModemShortage : Nat := 328
def ctrRadioRefused : Nat := 329

/-- Set 3, the Fibre Path Monitor (R75). -/
def ctrProbesSent : Nat := 384
def ctrHits : Nat := 385
def ctrMisses : Nat := 386
def ctrLateReplies : Nat := 387
def ctrDownEntries : Nat := 388

/-- Set 4, the Modem link and bearer (R97). -/
def ctrHeadersCorrected : Nat := 512
def ctrHeaderErrors : Nat := 513
def ctrPayloadErrors : Nat := 514
def ctrUnknownKinds : Nat := 515
def ctrRangeErrors : Nat := 516
def ctrStrayGrants : Nat := 517
def ctrOpenFailures : Nat := 518
def ctrBearerDrops : Nat := 519
def ctrLinkLosses : Nat := 520
def ctrLinkLostFrames : Nat := 521
def ctrRecordsSent : Nat := 522
def ctrRecordsReceived : Nat := 523

/-- Set 5, the Steering Controller (R115). -/
def ctrHoldUpstream : Nat := 640
def ctrHoldDownstream : Nat := 641
def ctrPassRadio : Nat := 642
def ctrModeChanges : Nat := 643
def ctrFibreOutEntries : Nat := 644

/-- Set 6, the Drain Unit (R131). -/
def ctrImmediateMoves : Nat := 768
def ctrDrainedMoves : Nat := 769
def ctrMovesCompleted : Nat := 770
def ctrDeadlineExpiries : Nat := 771
def ctrReversals : Nat := 772
def ctrCancellations : Nat := 773

/-- Set 7, the Radio Lane Scheduler, with the frames staged of the classes at positions 2 to 9 (R149, R175). -/
def ctrGrantsAccepted : Nat := 896
def ctrSamplesClamped : Nat := 897
def ctrFramesStaged (c : TrafficClass) : Nat := 898 + c.val
def ctrRunYields : Nat := 906
def ctrGrantWaits : Nat := 907

/-- Set 8, the Carrier Unit (R160). -/
def ctrRecordsWrapped : Nat := 1024
def ctrShortRecords : Nat := 1025
def ctrWrongVersion : Nat := 1026
def ctrWrongTunnel : Nat := 1027
def ctrLengthMismatch : Nat := 1028
def ctrFrameLengthErrors : Nat := 1029
def ctrLostSequences : Nat := 1030
def ctrLateRecords : Nat := 1031
def ctrFramesDelivered : Nat := 1032

/-- Set 9, the Allowance Meter (R169). -/
def ctrUpstreamMetered : Nat := 1152
def ctrDownstreamMetered : Nat := 1153
def ctrCeilingChanges : Nat := 1154

/-- Set 10, the Control Unit (R179). -/
def ctrFramesExecuted : Nat := 1280
def ctrMalformed : Nat := 1281
def ctrRefused : Nat := 1282
def ctrHoldLapses : Nat := 1283
def ctrNotices : Nat := 1284

/-- The last index of the counters (R173). -/
def lastCounter : Nat := 1407

/-! ## Pending causes (R180) -/

/-- A notice cause. -/
inductive Cause where
  | mode
  | fibre
  | radio
  | reserve
  | allowance
  | hold
  | link
  | pool
  deriving DecidableEq, Repr

/-- The set with a cause in it. A cause appears once at most. -/
def Causes.add (cs : Causes) : Cause → Causes
  | .mode => { cs with mode := true }
  | .fibre => { cs with fibre := true }
  | .radio => { cs with radio := true }
  | .reserve => { cs with reserve := true }
  | .allowance => { cs with allowance := true }
  | .hold => { cs with hold := true }
  | .link => { cs with link := true }
  | .pool => { cs with pool := true }

/-- The byte of the set in a notice: bit 0 MODE to bit 7 POOL. -/
def Causes.code (cs : Causes) : Nat :=
  bitsNat [cs.mode, cs.fibre, cs.radio, cs.reserve, cs.allowance, cs.hold, cs.link, cs.pool]

/-! ## The error summaries (R96, R179) -/

/-- A flag of the link error summary. -/
inductive LinkFlag where
  | corrected
  | header
  | length
  | payload
  | kind
  | range
  | lost
  deriving DecidableEq, Repr

/-- Whether a flag is set. -/
def LinkErrors.has (e : LinkErrors) : LinkFlag → Bool
  | .corrected => e.corrected
  | .header => e.header
  | .length => e.length
  | .payload => e.payload
  | .kind => e.kind
  | .range => e.range
  | .lost => e.lost

/-- The summary with a flag set. -/
def LinkErrors.set (e : LinkErrors) : LinkFlag → LinkErrors
  | .corrected => { e with corrected := true }
  | .header => { e with header := true }
  | .length => { e with length := true }
  | .payload => { e with payload := true }
  | .kind => { e with kind := true }
  | .range => { e with range := true }
  | .lost => { e with lost := true }

/-- The byte of the summary in the snapshot: bits 0 to 6 CORRECTED to LOST. -/
def LinkErrors.code (e : LinkErrors) : Nat :=
  bitsNat [e.corrected, e.header, e.length, e.payload, e.kind, e.range, e.lost]

/-- The byte of the control error summary in the snapshot: bits 0 to 2. -/
def ControlErrors.code (e : ControlErrors) : Nat := bitsNat [e.malformed, e.queueFull, e.holdLapsed]

end Sys2Proof.Machine
end

