-- ==== Sys2Proof/Machine/Ops.lean ====
section
/-! DEFINITION. The operations that the commands share: time, counters, causes, cells, flow entries, admission, the
changes of the radio and fibre states, and the admission of upstream frames to their queues. -/

namespace Sys2Proof.Machine

/-! ## Time and the beginning of an event -/

/-- The event is taken at time-base reading `t`, or at the present reading if that is later (log 1). Nothing is owed
yet. -/
def State.startAt (s : State) (t : Reading) : State := { s with now := max s.now t, due := Due.nothing }

/-- The event is the passing of a deadline: it is taken no earlier than the deadline (log 5). -/
def State.reach (s : State) (deadline : Reading) : State := { s with now := max s.now deadline }

/-- The seconds count (R22). -/
def State.seconds (s : State) : Nat := s.now / 1000 % 4294967296

/-! ## Sorted tables of a natural number key -/

/-- The value at a key. -/
def assocGet {α : Type} (k : Nat) : List (Nat × α) → Option α
  | [] => none
  | (k', v) :: rest => if k = k' then some v else assocGet k rest

/-- The table with a value at a key, its keys strictly rising if they were. -/
def assocSet {α : Type} (k : Nat) (v : α) : List (Nat × α) → List (Nat × α)
  | [] => [(k, v)]
  | (k', v') :: rest =>
    if k < k' then (k, v) :: (k', v') :: rest
    else if k = k' then (k, v) :: rest
    else (k', v') :: assocSet k v rest

/-- The table without a key. -/
def assocErase {α : Type} (k : Nat) (t : List (Nat × α)) : List (Nat × α) := t.filter (·.1 ≠ k)

/-- Keys strictly rise: the canonical form of a table. -/
abbrev assocSorted {α : Type} (t : List (Nat × α)) : Prop := t.Pairwise (·.1 < ·.1)

/-! ## Counters (00_scope.md, E). An index that is not listed reads 0, and no listed counter is 0. -/

/-- The value of a counter. -/
def State.counter (s : State) (i : Nat) : Nat := (assocGet i s.counters).getD 0

/-- A counter takes a value. -/
def State.setCounter (s : State) (i v : Nat) : State :=
  { s with counters := if v = 0 then assocErase i s.counters else assocSet i v s.counters }

/-- A counter rises by `n` and holds at its top. -/
def State.bumpBy (s : State) (i n : Nat) : State := s.setCounter i (min (s.counter i + n) Config.counterTop)

/-- A counter increments. -/
def State.bump (s : State) (i : Nat) : State := s.bumpBy i 1

/-- The canonical form of the counters: indexes strictly rising, every listed value from 1 to the top. -/
abbrev countersWf (t : List (Nat × Nat)) : Prop :=
  assocSorted t ∧ ∀ p ∈ t, 0 < p.2 ∧ p.2 ≤ Config.counterTop

/-! ## Causes and error flags -/

/-- A cause is raised: it joins the pending cause set, and the notice test is owed (R180, R181). -/
def State.raise (s : State) (c : Cause) : State :=
  { s with
    notices := { s.notices with causes := s.notices.causes.add c }
    due := { s.due with notice := true } }

/-- A flag of the link error summary is set; one that was clear raises LINK (R96). -/
def State.linkError (s : State) (f : LinkFlag) : State :=
  if s.link.errors.has f then s
  else State.raise { s with link := { s.link with errors := s.link.errors.set f } } .link

/-! ## The Cell Pool (R41, R54) -/

/-- The POOL test, made after each change of the free count and each write of the reserve floor (R54). -/
def State.poolTest (s : State) : State :=
  if s.pool.free < s.station.reserveFloor then
    if s.pool.low then s else State.raise { s with pool := { s.pool with low := true } } .pool
  else if s.pool.low then { s with pool := { s.pool with low := false } }
  else s

/-- Cells are taken from the pool. -/
def State.takeCells (s : State) (n : Nat) : State :=
  State.poolTest { s with pool := { s.pool with free := s.pool.free - n } }

/-- Cells return to the pool: the POOL test is made and the notice test is owed (R54, R181). -/
def State.returnCells (s : State) (n : Nat) : State :=
  if n = 0 then s
  else
    State.poolTest
      { s with pool := { s.pool with free := s.pool.free + n }, due := { s.due with notice := true } }

/-! ## Flow entries (R20, R21) -/

/-- The entry at a table index. -/
def State.entry (s : State) (i : Nat) : Option FlowEntry := assocGet i s.flows

/-- A way takes an entry. -/
def State.setEntry (s : State) (i : Nat) (e : FlowEntry) : State := { s with flows := assocSet i e s.flows }

/-- A way becomes free. -/
def State.removeEntry (s : State) (i : Nat) : State := { s with flows := assocErase i s.flows }

/-- An entry in use changes; a free way stays free. -/
def State.modifyEntry (s : State) (i : Nat) (g : FlowEntry → FlowEntry) : State :=
  match s.entry i with
  | some e => s.setEntry i (g e)
  | none => s

/-- An entry is ACTIVE with all three counts 0 (R28, R35, R37, R38). -/
def FlowEntry.idle (e : FlowEntry) : Bool :=
  e.move.isNone && e.fibrePending = 0 && e.radioPending = 0 && e.held = 0

/-- The pending count of a path (R31, R32). -/
def FlowEntry.pendingOn (e : FlowEntry) : Uplink → Nat
  | .fibre => e.fibrePending
  | .radio => e.radioPending

/-- The pending count of a path changed by a function. -/
def FlowEntry.mapPending (e : FlowEntry) (path : Uplink) (g : Nat → Nat) : FlowEntry :=
  match path with
  | .fibre => { e with fibrePending := g e.fibrePending }
  | .radio => { e with radioPending := g e.radioPending }

/-- A frame carrying an index is admitted to a path: the pending count rises by 1 (R31, R32). -/
def State.raisePending (s : State) (path : Uplink) (flow : Option Nat) : State :=
  match flow with
  | some i => s.modifyEntry i (·.mapPending path (· + 1))
  | none => s

/-- A frame carrying an index leaves a path: the pending count falls by 1, not below 0 (R30 to R32). -/
def State.lowerPending (s : State) (path : Uplink) (flow : Option Nat) : State :=
  match flow with
  | some i => s.modifyEntry i (·.mapPending path (· - 1))
  | none => s

/-! ## Classes, ceilings and admission to radio -/

/-- The entry of a class (R17). -/
def State.classEntry (s : State) (c : TrafficClass) : ClassEntry := s.classes[c]

/-- The eight classes in order. -/
def allClasses : List TrafficClass := [0, 1, 2, 3, 4, 5, 6, 7]

/-- The exempt ceiling (R140). -/
def State.exemptCeiling (s : State) : Nat :=
  min s.station.managerCeiling (if s.steering.reserve then s.station.reserveCeiling else 7)

/-- The effective ceiling (R140). It is computed, so after a RESET_N with ON_RESERVE active it is the reserve ceiling 2,
not the 7 that R132 and R140 name for RESET_N (DESIGN CHOICE, log 28). -/
def State.effectiveCeiling (s : State) : Nat := min s.exemptCeiling s.allowance.ceiling

/-- A class is admitted to radio (R141). -/
def State.admitted (s : State) (c : TrafficClass) : Bool :=
  s.tunnel.templateLength ≠ 0 &&
    (decide ((s.classEntry c).level < s.effectiveCeiling) ||
      ((s.classEntry c).exempt && decide ((s.classEntry c).level < s.exemptCeiling)))

/-- The credit cap of a class (R138). -/
def State.creditCap (s : State) (c : TrafficClass) : Int := (s.classEntry c).burst * 128

/-- The usable rate U (R137). -/
def State.usableRate (s : State) : Nat := s.scheduler.estimate * s.radio.headroom / 16

/-- The radio class queue of a class. -/
def State.radioQueue (s : State) (c : TrafficClass) : List UpFrame := s.scheduler.queues[c]

/-- A radio class queue takes a list of frames. -/
def State.setRadioQueue (s : State) (c : TrafficClass) (q : List UpFrame) : State :=
  { s with scheduler := { s.scheduler with queues := s.scheduler.queues.set c.val q c.isLt } }

/-- The credit of a class. -/
def State.credit (s : State) (c : TrafficClass) : Int := s.scheduler.credit[c]

/-- A class takes a credit. -/
def State.setCredit (s : State) (c : TrafficClass) (v : Int) : State :=
  { s with scheduler := { s.scheduler with credit := s.scheduler.credit.set c.val v c.isLt } }

/-! ## The radio state and the bearer record slot -/

/-- The attached radio states (R104). -/
def RadioState.attached : RadioState → Bool
  | .absent | .searching => false
  | .ready | .opening | .opened | .linger | .closing => true

/-- OPEN or LINGER: grants are accepted, credit is refilled and selections are made (R82, R138, R143). -/
def RadioState.carrying : RadioState → Bool
  | .opened | .linger => true
  | .absent | .searching | .ready | .opening | .closing => false

/-- A change of the radio state raises RADIO and owes a recomputation of the mode (R94). -/
def State.setRadioState (s : State) (r : RadioState) : State :=
  if s.bearer.state = r then s
  else
    State.raise
      { s with bearer := { s.bearer with state := r }, due := { s.due with mode := true } } .radio

/-- A bearer record is requested: it takes the slot, in place of a pending record of the other kind (R85). -/
def State.requestBearer (s : State) (k : BearerRecord) : State :=
  { s with sender := { s.sender with bearerSlot := some k }, due := { s.due with transfer := true } }

/-- Radio work is waiting: a radio class queue holds a frame and its class is admitted (R89). -/
def State.radioWork (s : State) : Bool := allClasses.any fun c => !(s.radioQueue c).isEmpty && s.admitted c

/-- Open demand (R89). -/
def State.openDemand (s : State) : Bool :=
  s.radioWork || (s.radio.preOpen && decide (s.monitor.state = .suspect) && s.steering.begun)

/-- An event of open demand: in READY with open demand and no retry timer running the bearer is opened (R89). -/
def State.tryOpen (s : State) : State :=
  if s.bearer.state = .ready ∧ s.bearer.retryTimer = none ∧ s.openDemand then
    let s := s.requestBearer .bearerOpen
    let s := { s with bearer := { s.bearer with openTimer := some (s.now + s.radio.openTimeout * 1000) } }
    s.setRadioState .opening
  else s

/-- In LINGER the bearer returns to OPEN and the linger timer is cancelled (R91). In any other state nothing happens. -/
def State.endLinger (s : State) : State :=
  if s.bearer.state = .linger then
    State.setRadioState { s with bearer := { s.bearer with lingerTimer := none } } .opened
  else s

/-- Entry into READY: the balance is 0, and with open demand and no retry timer running the bearer opens at once
(R89). -/
def State.enterReady (s : State) : State :=
  let s := s.setRadioState .ready
  State.tryOpen { s with scheduler := { s.scheduler with balance := 0 } }

/-- What a change of admission hands on (R141): a selection is owed, and a class that became admitted with frames
waiting is open demand and ends LINGER. `before` is the state whose admission stood until now. -/
def State.admissionChange (before s : State) : State :=
  if allClasses.any fun c => before.admitted c ≠ s.admitted c then
    let s' := { s with due := { s.due with select := true } }
    if allClasses.any fun c => !before.admitted c && s.admitted c && !(s.radioQueue c).isEmpty then
      s'.endLinger.tryOpen
    else s'
  else s

/-! ## The fibre state -/

/-- A change of the fibre state is offered to steering, the bearer controller, the notices and the Fibre Port Unit
(R73). -/
def State.setFibreState (s : State) (f : FibreState) : State :=
  if s.monitor.state = f then s
  else
    let s := { s with
      monitor := { s.monitor with state := f }
      due := { s.due with mode := true, fibre := s.due.fibre || decide (f = FibreState.up) } }
    let s := s.raise .fibre
    if f = .suspect then s.tryOpen else s

/-! ## Admission of upstream frames to their queues (R42, R45) -/

/-- The occupancy of the fibre egress queue, with the frame in transmission (R42). -/
def State.fibreOccupancy (s : State) : Nat :=
  cellsOf s.fibre.queue +
    match s.fibre.sending with
    | some (.frame f) => f.cells
    | some (.probe _) => 0
    | none => 0

/-- Why the admission tests refuse a frame (R45). -/
inductive AdmissionRefusal where
  | queueFull
  | poolFloor
  deriving DecidableEq, Repr

/-- The admission tests of R45 in their order, for a frame of `k` cells and a queue of a given occupancy and limit. -/
def State.admissionTest (s : State) (occupancy limit k level : Nat) : Option AdmissionRefusal :=
  if limit < occupancy + k then some .queueFull
  else if s.pool.free < k then some .poolFloor
  else if s.pool.free < s.station.reserveFloor + k ∧ 1 < level then some .poolFloor
  else none

/-- The level a frame is tested with: that of its class, or 7 for an unclassified frame (R45). -/
def State.frameLevel (s : State) (f : UpFrame) : Nat :=
  match f.cls with
  | some c => (s.classEntry c).level
  | none => 7

/-- A refused frame is discarded: it is counted by cause and its cells return (R45). -/
def State.refuseFrame (s : State) (f : UpFrame) (r : AdmissionRefusal) : State :=
  let i := match f.cls, r with
    | none, _ => ctrUnclassified
    | some c, .queueFull => ctrDropQueueFull c
    | some c, .poolFloor => ctrDropPoolFloor c
  (s.bump i).returnCells f.cells

/-- A frame joins the tail of the fibre egress queue (R45, R46). -/
def State.joinFibre (s : State) (f : UpFrame) : State :=
  State.raisePending
    { s with fibre := { s.fibre with queue := s.fibre.queue ++ [f] }, due := { s.due with fibre := true } }
    .fibre f.flow

/-- A frame joins the tail of its class's radio queue. A selection is owed; in an admitted class the frame is open
demand and ends LINGER (R89, R91, R143). -/
def State.joinRadio (s : State) (c : TrafficClass) (f : UpFrame) : State :=
  let s := s.setRadioQueue c (s.radioQueue c ++ [f])
  let s := { s with due := { s.due with select := true } }
  let s := s.raisePending .radio f.flow
  if s.admitted c then s.endLinger.tryOpen else s

/-- A frame is steered or released to the fibre egress queue under R45. -/
def State.sendFibre (s : State) (f : UpFrame) : State :=
  match s.admissionTest s.fibreOccupancy s.station.fibreLimit f.cells (s.frameLevel f) with
  | some r => s.refuseFrame f r
  | none => s.joinFibre f

/-- A frame is steered or released to its class's radio queue under R45. -/
def State.sendRadio (s : State) (c : TrafficClass) (f : UpFrame) : State :=
  match s.admissionTest (cellsOf (s.radioQueue c)) (s.classEntry c).queueLimit f.cells (s.frameLevel f) with
  | some r => s.refuseFrame f r
  | none => s.joinRadio c f

/-- A frame of a class is steered or released to a path under R45. -/
def State.sendTo (s : State) (path : Uplink) (c : TrafficClass) (f : UpFrame) : State :=
  match path with
  | .fibre => s.sendFibre f
  | .radio => s.sendRadio c f

end Sys2Proof.Machine
end

