-- ==== Sys2Proof/Machine/Drain.lean ====
section
/-! DEFINITION. The Drain Unit: the held list, moves and their ends (chapter 7), the discards that lower the pending
counts, and the expiry of a drain deadline. -/

namespace Sys2Proof.Machine

/-! ## Releasing held frames (R123, R124, R127, R128) -/

/-- A frame carries a table index. -/
def UpFrame.ofFlow (i : Nat) (f : UpFrame) : Bool := f.flow = some i

/-- One held frame is released to a path: the held count falls by 1 and the frame takes its admission tests there
(R33, R124). -/
def State.releaseOne (s : State) (i : Nat) (path : Uplink) (c : TrafficClass) (f : UpFrame) : State :=
  (s.modifyEntry i fun e => { e with held := e.held - 1 }).sendTo path c f

/-- A flow's held frames leave the held list and are released in their order to a path (R124). -/
def State.releaseHeld (s : State) (i : Nat) (path : Uplink) (c : TrafficClass) : State :=
  (s.held.filter (UpFrame.ofFlow i)).foldl (fun s f => s.releaseOne i path c f)
    { s with held := s.held.filter fun f => !UpFrame.ofFlow i f }

/-- The entry's state becomes ACTIVE on an uplink: move target and deadline absent, the deadline timer stopped. -/
def State.settleEntry (s : State) (i : Nat) (u : Uplink) : State :=
  s.modifyEntry i fun e => { e with uplink := u, move := none }

/-- A move completes (R123). -/
def State.completeMove (s : State) (i : Nat) : State :=
  match s.entry i with
  | some e =>
    match e.move with
    | some m => ((s.releaseHeld i m.target e.cls).settleEntry i m.target).bump ctrMovesCompleted
    | none => s
  | none => s

/-- The Flow Table's test after an event has lowered a count of a path: a DRAINING entry whose old path is that path and
whose pending count there has reached 0 is handed to the Drain Unit, which completes the move (R34, R123). -/
def State.handOver (s : State) (path : Uplink) (flow : Option Nat) : State :=
  match flow with
  | some i =>
    match s.entry i with
    | some e => if e.move.isSome ∧ e.uplink = path ∧ e.pendingOn path = 0 then s.completeMove i else s
    | none => s
  | none => s

/-- A frame leaves a path: its flow's pending count falls by 1, which may complete a move (R31, R32, R34). -/
def State.frameGone (s : State) (path : Uplink) (f : UpFrame) : State :=
  (s.lowerPending path f.flow).handOver path f.flow

/-! ## Drain discards (R120, R125) -/

/-- A waiting frame of a flow that moves away is discarded: its cells return, it counts in its class's
discarded-on-drain counter, and the pending count falls by 1. -/
def State.drainDiscard (path : Uplink) (c : TrafficClass) (s : State) (f : UpFrame) : State :=
  ((s.returnCells f.cells).bump (ctrDiscardOnDrain c)).lowerPending path f.flow

/-- The waiting frames of a flow on its old path are discarded: those in the fibre egress queue, or those in its class's
radio queue. The frame in transmission, the staged frame and the frame in transfer are no waiting frames. -/
def State.discardWaiting (s : State) (i : Nat) (path : Uplink) (c : TrafficClass) : State :=
  match path with
  | .fibre =>
    (s.fibre.queue.filter (UpFrame.ofFlow i)).foldl (State.drainDiscard .fibre c)
      { s with fibre := { s.fibre with queue := s.fibre.queue.filter fun f => !UpFrame.ofFlow i f } }
  | .radio =>
    ((s.radioQueue c).filter (UpFrame.ofFlow i)).foldl (State.drainDiscard .radio c)
      (s.setRadioQueue c ((s.radioQueue c).filter fun f => !UpFrame.ofFlow i f))

/-- The pending count of a path in the entry at an index. -/
def State.pendingOf (s : State) (i : Nat) (path : Uplink) : Nat :=
  match s.entry i with
  | some e => e.pendingOn path
  | none => 0

/-! ## Frames handed to the Drain Unit (R118 to R122, R127) -/

/-- A frame of a DRAINING flow is held, or discarded at a full held list (R122). -/
def State.holdFrame (s : State) (i : Nat) (c : TrafficClass) (f : UpFrame) : State :=
  if s.held.length < Config.heldFrames then
    State.modifyEntry { s with held := s.held ++ [f] } i fun e => { e with held := e.held + 1 }
  else (s.bump (ctrDropHeldFull c)).returnCells f.cells

/-- An immediate move: the uplink becomes the target and the frame goes there under R45 (R119). -/
def State.immediateMove (s : State) (i : Nat) (c : TrafficClass) (target : Uplink) (f : UpFrame) : State :=
  ((s.settleEntry i target).bump ctrImmediateMoves).sendTo target c f

/-- An entry becomes DRAINING (R120, R121). -/
def State.beginDrain (s : State) (i : Nat) (m : Move) : State :=
  (s.modifyEntry i fun e => { e with move := some m }).bump ctrDrainedMoves

/-- A frame whose target differs from its ACTIVE entry's uplink starts a move (R118 to R121). -/
def State.startMove (s : State) (i : Nat) (e : FlowEntry) (target : Uplink) (f : UpFrame) : State :=
  let drain := (s.classEntry e.cls).drainTime
  if e.pendingOn e.uplink = 0 then s.immediateMove i e.cls target f
  else if drain = 0 then
    let s := s.discardWaiting i e.uplink e.cls
    if s.pendingOf i e.uplink = 0 then s.immediateMove i e.cls target f
    else
      ((s.beginDrain i { target := target, deadline := s.now, overdue := true }).bump ctrDeadlineExpiries).holdFrame
        i e.cls f
  else (s.beginDrain i { target := target, deadline := s.now + drain, overdue := false }).holdFrame i e.cls f

/-- A frame whose target equals its DRAINING entry's uplink reverses the move (R127). -/
def State.reverseMove (s : State) (i : Nat) (e : FlowEntry) (f : UpFrame) : State :=
  (((s.releaseHeld i e.uplink e.cls).sendTo e.uplink e.cls f).settleEntry i e.uplink).bump ctrReversals

/-- A learned frame whose target is named goes on by its entry (R112, R118). -/
def State.placeLearned (s : State) (i : Nat) (e : FlowEntry) (target : Uplink) (f : UpFrame) : State :=
  match e.move with
  | none => if e.uplink = target then s.sendTo target e.cls f else s.startMove i e target f
  | some m => if target = m.target then s.holdFrame i e.cls f else s.reverseMove i e f

/-- A move toward FIBRE is cancelled on the setting of the fibre-out mark (R128). -/
def State.cancelMove (s : State) (i : Nat) : State :=
  match s.entry i with
  | some e =>
    match e.move with
    | some m =>
      if m.target = .fibre then
        ((s.releaseHeld i e.uplink e.cls).settleEntry i e.uplink).bump ctrCancellations
      else s
    | none => s
  | none => s

/-! ## The drain deadline (R125) -/

/-- A DRAINING flow's deadline timer expires. -/
def State.expireDrain (s : State) (i : Nat) (e : FlowEntry) (m : Move) : State :=
  let s := (s.discardWaiting i e.uplink e.cls).bump ctrDeadlineExpiries
  if s.pendingOf i e.uplink = 0 then s.completeMove i
  else s.modifyEntry i fun e => { e with move := some { m with overdue := true } }

/-! ## Unstaging (R87, R126) -/

/-- The flow of a radio frame is overdue on its way from RADIO. -/
def State.overdueOnRadio (s : State) (flow : Option Nat) : Bool :=
  match flow with
  | some i =>
    match s.entry i with
    | some e => decide (e.uplink = .radio) && (match e.move with
      | some m => m.overdue
      | none => false)
    | none => false
  | none => false

/-- The staged frame returns to the head of its class queue, its length given back to its class's credit up to the cap
(R87). A frame of an overdue flow is discarded at once (R126). -/
def State.unstage (s : State) : State :=
  match s.sender.staged with
  | none => s
  | some f =>
    match f.cls with
    | none => s
    | some c =>
      let s := { s with sender := { s.sender with staged := none } }
      let s := s.setCredit c (min (s.credit c + f.data.length) (s.creditCap c))
      if s.overdueOnRadio f.flow then
        (((s.returnCells f.cells).bump (ctrDiscardOnDrain c)).frameGone .radio f)
      else s.setRadioQueue c (f :: s.radioQueue c)

end Sys2Proof.Machine
end

