-- ==== Sys2Proof/Machine/Scheduler.lean ====
section
/-! DEFINITION. The Radio Lane Scheduler: rate samples, the estimate, the refill, and the selection that stages a frame
(chapter 8). -/

namespace Sys2Proof.Machine

/-! ## The rate estimate (R134, R135) -/

/-- A rate sample before it is clamped (R134). -/
def rawSample (grant period : Nat) : Nat := grant * 8 / period

/-- The rate sample of a grant (R134). -/
def rateSample (grant period : Nat) : Nat := min (rawSample grant period) Config.rateTop

/-- The quotient rounded up. -/
def ceilDiv (a b : Nat) : Nat := (a + (b - 1)) / b

/-- The new estimate after a sample (R135). -/
def newEstimate (sampled : Bool) (e sample rise fall : Nat) : Nat :=
  min Config.rateTop
    (if !sampled then sample
     else if e ≤ sample then e + (sample - e) / 2 ^ rise
     else e - ceilDiv (e - sample) (2 ^ fall))

/-- An accepted grant: the balance is set, the estimate takes the sample, and a staged frame may now begin (R82, R133,
R135). -/
def State.acceptGrant (s : State) (grant period : Nat) : State :=
  let s := { s with
    scheduler := { s.scheduler with
      balance := grant
      estimate := newEstimate s.scheduler.sampled s.scheduler.estimate (rateSample grant period) s.radio.riseShift
        s.radio.fallShift
      sampled := true }
    due := { s.due with transfer := true } }
  let s := s.bump ctrGrantsAccepted
  if Config.rateTop < rawSample grant period then s.bump ctrSamplesClamped else s

/-- The radio side starts afresh: no balance, no sample, no credit and no run (R84, R88, R132, R136). -/
def State.clearRadioSide (s : State) : State :=
  { s with
    scheduler := { s.scheduler with
      credit := Vector.replicate 8 0, balance := 0, estimate := 0, sampled := false, runClass := none, runCount := 0 } }

/-! ## The refill (R138) -/

/-- The allotment of one refill (R138). -/
def State.allotment (s : State) : Nat := s.usableRate * 5 / 4

/-- The credit of a class after a refill (R138). -/
def State.refilledCredit (s : State) (c : TrafficClass) : Int :=
  if s.admitted c then
    min (s.credit c + ((s.allotment * (s.classEntry c).weight / 64 : Nat) : Int)) (s.creditCap c)
  else s.credit c

/-- The refill across the eight classes, after which a selection is owed (R138, R143). -/
def State.refill (s : State) : State :=
  { s with
    scheduler := { s.scheduler with credit := Vector.ofFn s.refilledCredit }
    due := { s.due with select := true } }

/-! ## Sojourn discards (R48) -/

/-- A frame's sojourn exceeds its class's allowance at this reading (R48). -/
def State.tooOld (s : State) (c : TrafficClass) (f : UpFrame) : Bool :=
  (s.classEntry c).sojournLimit ≠ 0 && decide ((s.classEntry c).sojournLimit * 10 < s.now - f.arrival)

/-- A head is discarded for its sojourn (R48). -/
def State.sojournDiscard (c : TrafficClass) (s : State) (f : UpFrame) : State :=
  ((s.returnCells f.cells).bump (ctrDropSojourn c)).frameGone .radio f

/-- The head of a class queue is examined, and the new head in turn, until a head is within its allowance (R48). -/
def State.examineHead (s : State) (c : TrafficClass) : State :=
  ((s.radioQueue c).takeWhile (s.tooOld c)).foldl (State.sojournDiscard c)
    (s.setRadioQueue c ((s.radioQueue c).dropWhile (s.tooOld c)))

/-- The heads of all the class queues are examined (R48, R143). -/
def State.examineHeads (s : State) : State := allClasses.foldl State.examineHead s

/-! ## Choosing and staging (R144, R145) -/

/-- A class is a candidate (R144). -/
def State.candidate (s : State) (c : TrafficClass) : Bool :=
  s.admitted c && !(s.radioQueue c).isEmpty && decide (1 ≤ s.credit c)

/-- The lowest level among the candidates (R144); 8 where there is none. -/
def State.lowestLevel (s : State) : Nat :=
  (allClasses.filter s.candidate).foldl (fun l c => min l (s.classEntry c).level) 8

/-- A class is a candidate of the lowest level among the candidates. -/
def State.leading (s : State) (c : TrafficClass) : Bool :=
  s.candidate c && (s.classEntry c).level = s.lowestLevel

/-- The seven other classes after a class in cyclic class-number order (R145). -/
def cyclicAfter (c : TrafficClass) : List TrafficClass := [c + 1, c + 2, c + 3, c + 4, c + 5, c + 6, c + 7]

/-- The run class that must yield at this selection, if any (R145). -/
def State.yielding (s : State) : Option TrafficClass :=
  match s.scheduler.runClass with
  | some r =>
    if s.leading r ∧ s.radio.runLimit ≤ s.scheduler.runCount ∧ (cyclicAfter r).any s.leading then some r else none
  | none => none

/-- The class chosen at a selection (R144, R145). -/
def State.chosen (s : State) : Option TrafficClass :=
  match s.yielding with
  | some r => (cyclicAfter r).find? s.leading
  | none => allClasses.find? s.leading

/-- The run count after a staging of a class (R145). -/
def State.nextRunCount (s : State) (c : TrafficClass) : Nat :=
  if s.scheduler.runClass = some c then min (s.scheduler.runCount + 1) 64 else 1

/-- The head frame of a class is staged (R144, R145). -/
def State.stage (s : State) (c : TrafficClass) (f : UpFrame) (rest : List UpFrame) : State :=
  let s := s.setRadioQueue c rest
  let s := s.setCredit c (s.credit c - f.data.length)
  let s := { s with
    scheduler := { s.scheduler with runClass := some c, runCount := s.nextRunCount c }
    sender := { s.sender with staged := some f }
    due := { s.due with transfer := true } }
  (s.bump (ctrFramesStaged c)).endLinger

/-- A selection: the heads are examined, then the chosen class's head is staged, or none is found (R143). -/
def State.selection (s : State) : State :=
  let s := s.examineHeads
  match s.chosen with
  | none => s
  | some c =>
    match s.radioQueue c with
    | [] => s
    | f :: rest => (if s.yielding.isSome then s.bump ctrRunYields else s).stage c f rest

/-- A selection that is owed is made if the staged slot is empty and the bearer is OPEN or LINGER (R143). -/
def State.trySelect (s : State) : State :=
  if s.due.select then
    let s := { s with due := { s.due with select := false } }
    if s.sender.staged = none ∧ s.bearer.state.carrying then s.selection else s
  else s

end Sys2Proof.Machine
end

