-- ==== Sys2Proof/Machine/Carrier.lean ====
section
/-! DEFINITION. The Carrier Unit: building an upstream DATA record with its fix-ups, the tests of a downstream one and
the sequence check (chapter 9); and the beginning of transfers on the Modem link (R85). -/

namespace Sys2Proof.Machine

/-! ## Building the payload of a DATA record (R153 to R155) -/

/-- The carrier length of a frame under a Tunnel record (R85, R153). -/
def carrierLength (t : TunnelRecord) (frameLength : Nat) : Nat := t.templateLength + 8 + frameLength

/-- The template bytes that are sent (R153). -/
def templateBytes (t : TunnelRecord) : Bytes := (beBytes 64 t.template.toNat).take t.templateLength

/-- A length fix-up: the inner length is added to the 16-bit value at the offset, modulo 65536 (R154). -/
def lengthFix (fix : Option Nat) (inner : Nat) (work : Bytes) : Bytes :=
  match fix with
  | none => work
  | some o => overwrite o (beBytes 2 ((field o 2 work + inner) % 65536)) work

/-- The corrected checksum from HC, m and m' (R155). -/
def fixedChecksum (hc m m' : Nat) : Nat := onesNot (onesAdd (onesAdd (onesNot hc) (onesNot m)) m')

/-- The checksum fix-up, for the change that fix-up A has made to the stored template (R155). -/
def checksumFix (t : TunnelRecord) (inner : Nat) (work : Bytes) : Bytes :=
  match t.fixA, t.fixChecksum with
  | some a, some o =>
    let m := field a 2 (templateBytes t)
    overwrite o (beBytes 2 (fixedChecksum (field o 2 work) m ((m + inner) % 65536))) work
  | _, _ => work

/-- The working copy of the template with the three fix-ups applied in their order (R153 to R155). -/
def fixedTemplate (t : TunnelRecord) (inner : Nat) : Bytes :=
  checksumFix t inner (lengthFix t.fixB inner (lengthFix t.fixA inner (templateBytes t)))

/-- The carrier header (R153, Formats on the wire). -/
def carrierHeader (cls tunnel sequence inner : Nat) : Bytes :=
  beBytes 1 1 ++ beBytes 1 cls ++ beBytes 2 tunnel ++ beBytes 2 sequence ++ beBytes 2 inner

/-- The class number a frame carries; an upstream frame on radio always carries one. -/
def UpFrame.classCode (f : UpFrame) : Nat :=
  match f.cls with
  | some c => c.val
  | none => 0

/-- The payload of the DATA record of a frame (R153). -/
def wrapFrame (t : TunnelRecord) (sequence : Nat) (f : UpFrame) : Bytes :=
  let inner := 8 + f.data.length
  fixedTemplate t inner ++ carrierHeader f.classCode t.upstreamId sequence inner ++ f.data

/-! ## Transfers on the Modem link (R85, R146) -/

/-- The record of a bearer request (R77). -/
def bearerRecordBytes : BearerRecord → Bytes
  | .bearerOpen => recordBytes kindBearerOpen []
  | .bearerClose => recordBytes kindBearerClose []

/-- The pending bearer record begins its transfer (R85). -/
def State.beginBearer (s : State) (k : BearerRecord) : State :=
  { s with sender := { s.sender with bearerSlot := none, transfer := some (.bearer k (bearerRecordBytes k)) } }

/-- A staged frame begins its transfer: the balance falls by its carrier length, the Carrier Unit wraps it with the next
sequence, and the empty slot owes a selection (R85, R153, R156). -/
def State.beginData (s : State) (f : UpFrame) : State :=
  let carrier := carrierLength s.tunnel f.data.length
  let bytes := recordBytes kindDataUp (wrapFrame s.tunnel s.carrier.upstreamSequence f)
  let s := { s with
    scheduler := { s.scheduler with balance := s.scheduler.balance - carrier }
    carrier := { s.carrier with upstreamSequence := (s.carrier.upstreamSequence + 1) % 65536 }
    sender := { s.sender with staged := none, transfer := some (.data f carrier bytes) }
    due := { s.due with select := true } }
  s.bump ctrRecordsWrapped

/-- A staged frame is held back for want of balance, which is counted when it is first found so, once for the frame
(R146, log 21). -/
def State.noteGrantWait (s : State) (f : UpFrame) : State :=
  if f.waited then s
  else State.bump { s with sender := { s.sender with staged := some { f with waited := true } } } ctrGrantWaits

/-- A new transfer begins when the link is up, no record is in transfer and a source is ready (R85). -/
def State.beginTransfer (s : State) : State :=
  if s.link.up ∧ s.sender.transfer = none then
    match s.sender.bearerSlot with
    | some k => s.beginBearer k
    | none =>
      match s.sender.staged with
      | none => s
      | some f =>
        if carrierLength s.tunnel f.data.length ≤ s.scheduler.balance then s.beginData f
        else s.noteGrantWait f
  else s

/-- A test that is owed whether a transfer can begin is made (R85). -/
def State.tryTransfer (s : State) : State :=
  if s.due.transfer then State.beginTransfer { s with due := { s.due with transfer := false } } else s

/-- The transmit side runs to rest within the event: a record begins, a frame is staged in its place, and it begins in
turn if nothing is in transfer (R85, R143, R147). At most one record can be in transfer and one frame staged, so two
rounds reach rest. -/
def State.pumpRadio (s : State) : State :=
  s.tryTransfer.trySelect.tryTransfer.trySelect.tryTransfer

/-! ## Unwrapping a downstream DATA record (R157, R158) -/

/-- What the tests of R157 make of a payload. -/
inductive CarrierOutcome where
  | discard (counter : Nat)
  | frame (sequence : Nat) (data : Bytes)
  deriving DecidableEq, Repr

/-- The tests of R157 in their order. -/
def judgeCarrier (t : TunnelRecord) (payload : Bytes) : CarrierOutcome :=
  let body := payload.drop t.stripLength
  let inner := field 6 2 body
  if payload.length < t.stripLength + 8 then .discard ctrShortRecords
  else if field 0 1 body ≠ 1 then .discard ctrWrongVersion
  else if field 2 2 body ≠ t.downstreamId then .discard ctrWrongTunnel
  else if inner ≠ payload.length - t.stripLength then .discard ctrLengthMismatch
  else if inner < Config.minFrame + 8 ∨ Config.maxFrame + 8 < inner then .discard ctrFrameLengthErrors
  else .frame (field 4 2 body) (body.drop 8)

/-- The sequence check (R158). -/
def State.checkSequence (s : State) (n : Nat) : State :=
  let next := some ((n + 1) % 65536)
  match s.carrier.expected with
  | none => { s with carrier := { s.carrier with expected := next } }
  | some e =>
    let d := (n + 65536 - e) % 65536
    if d < 32768 then State.bumpBy { s with carrier := { s.carrier with expected := next } } ctrLostSequences d
    else s.bump ctrLateRecords

end Sys2Proof.Machine
end

