-- ==== Sys2Proof/Machine/Steering.lean ====
section
/-! DEFINITION. The Steering Controller: the service mode, the fibre-out mark with its flush and cancellations, the lamp,
and the target uplink of a frame (chapter 6). -/

namespace Sys2Proof.Machine

/-! ## The service mode (R104) -/

/-- The fibre state is UP or SUSPECT. -/
def FibreState.alive : FibreState → Bool
  | .up | .suspect => true
  | .down | .recovering => false

/-- The service mode that its inputs give (R104). -/
def serviceMode (steering : Steering) (force : Force) (fibre : FibreState) (radio : RadioState) : Mode :=
  if !steering.begun then (if steering.strapHigh then .pass else .hold)
  else if force = .fibre then .normal
  else if force = .radio ∨ !fibre.alive then (if radio.attached then .fallback else .isolated)
  else .normal

/-- The service mode that the present inputs give. -/
def State.modeNow (s : State) : Mode := serviceMode s.steering s.station.force s.monitor.state s.bearer.state

/-- RADIO_LAMP is lit in this mode (R114). -/
def Mode.lampLit : Mode → Bool
  | .fallback | .isolated => true
  | .pass | .hold | .normal => false

/-- The fibre-out condition (R108). -/
def fibreOutCondition (m : Mode) (f : FibreState) : Bool := m.lampLit && !f.alive

/-- A recomputed mode that differs from the mode in force is handed on (R104, R114). -/
def State.changeMode (s : State) (m : Mode) : State :=
  if s.service.mode = m then s
  else
    let s := { s with service := { s.service with mode := m, lamp := m.lampLit } }
    (s.raise .mode).bump ctrModeChanges

/-! ## The flush and the cancellations (R46, R108, R109) -/

/-- A waiting frame is flushed: its cells return, it is counted, and its flow's fibre pending falls by 1 (R108). -/
def State.flushOne (s : State) (f : UpFrame) : State :=
  let i := match f.cls with
    | some c => ctrFlushed c
    | none => ctrUnclassified
  ((s.returnCells f.cells).bump i).lowerPending .fibre f.flow

/-- The fibre egress queue is flushed; each flow whose move this lets end is then handed to the Drain Unit (R46, R108,
R34). -/
def State.flushFibre (s : State) : State :=
  let frames := s.fibre.queue
  let s := frames.foldl State.flushOne { s with fibre := { s.fibre with queue := [] } }
  frames.foldl (fun s f => s.handOver .fibre f.flow) s

/-- An index takes its place in a list that rises by rank. -/
def insertByRank (rank : Nat → Nat) (i : Nat) : List Nat → List Nat
  | [] => [i]
  | j :: rest => if rank i ≤ rank j then i :: j :: rest else j :: insertByRank rank i rest

/-- The indexes of a list in the order of their ranks. -/
def orderByRank (rank : Nat → Nat) (is : List Nat) : List Nat := is.foldr (insertByRank rank) []

/-- An entry is DRAINING toward FIBRE. -/
def FlowEntry.towardFibre (e : FlowEntry) : Bool :=
  match e.move with
  | some m => decide (m.target = .fibre)
  | none => false

/-- The indexes of the entries that are DRAINING toward FIBRE (R109). -/
def State.movesToFibre (s : State) : List Nat := (s.flows.filter fun p => p.2.towardFibre).map (·.1)

/-- Every move toward FIBRE is cancelled (R109, R128), in any order among themselves: the order is free (log 13). -/
def State.cancelMoves (s : State) : State :=
  (orderByRank (Config.cancelRank s.now) s.movesToFibre).foldl State.cancelMove s

/-- The fibre-out mark is compared with its condition (R108). -/
def State.fibreOutTest (s : State) : State :=
  if fibreOutCondition s.service.mode s.monitor.state then
    if s.service.fibreOut then s
    else
      let s := { s with service := { s.service with fibreOut := true } }
      (s.flushFibre.cancelMoves).bump ctrFibreOutEntries
  else { s with service := { s.service with fibreOut := false } }

/-- The service mode is recomputed (R104). -/
def State.recomputeMode (s : State) : State := (s.changeMode s.modeNow).fibreOutTest

/-- A recomputation that is owed is made (R104). -/
def State.tryMode (s : State) : State :=
  if s.due.mode then State.recomputeMode { s with due := { s.due with mode := false } } else s

/-! ## The target uplink of a frame (R110) -/

/-- What steering answers for a frame. -/
inductive Target where
  | to (u : Uplink)
  | notAdmitted
  | fibreOnly
  deriving DecidableEq, Repr

/-- The target on the side of FALLBACK and ISOLATED (R110). -/
def State.radioSideTarget (s : State) (policy : Policy) (c : TrafficClass) : Target :=
  match policy with
  | .follow | .sticky => if s.admitted c then .to .radio else .notAdmitted
  | .fibreOnly => if s.station.force = .radio ∧ s.monitor.state.alive then .to .fibre else .fibreOnly

/-- The target of a frame of class `c` under a policy, with the uplink of its entry if it has one (R110). In PASS and
HOLD no frame is steered, and the answer is not used. -/
def State.target (s : State) (policy : Policy) (c : TrafficClass) (uplink : Option Uplink) : Target :=
  match s.service.mode with
  | .fallback | .isolated => s.radioSideTarget policy c
  | .normal | .pass | .hold =>
    if policy = .sticky ∧ uplink = some .radio ∧ s.bearer.state.attached ∧ s.admitted c then .to .radio
    else .to .fibre

/-- A frame dropped by steering is counted in its class and its cells return (R112, R115). -/
def State.dropNotAdmitted (s : State) (c : TrafficClass) (f : UpFrame) : State :=
  (s.bump (ctrDropNotAdmitted c)).returnCells f.cells

/-- A FIBRE_ONLY frame with no fibre to take it is dropped (R112, R115). -/
def State.dropFibreOnly (s : State) (c : TrafficClass) (f : UpFrame) : State :=
  (s.bump (ctrDropFibreOnly c)).returnCells f.cells

end Sys2Proof.Machine
end

