-- ==== Sys2Proof/Machine/Settle.lean ====
section
/-! DEFINITION. How an event ends: the mode, the Modem link's transmit side, the Fibre port, the premises egress arbiter
and the notice test, each if the event owes it (log 4); the status snapshot and the frames the part writes itself. -/

namespace Sys2Proof.Machine

/-! ## The Fibre port (R46, R63) -/

/-- The Fibre Port Unit begins a transmission if the port is idle: a waiting probe first, in any fibre state; otherwise,
in UP or SUSPECT, the head of the fibre egress queue (R46). -/
def State.beginFibre (s : State) : State :=
  if s.fibre.sending = none then
    match s.fibre.waitingProbe with
    | some p =>
      State.bump { s with fibre := { s.fibre with waitingProbe := none, sending := some (.probe p) } } ctrProbesSent
    | none =>
      if s.monitor.state.alive then
        match s.fibre.queue with
        | [] => s
        | f :: rest => { s with fibre := { s.fibre with queue := rest, sending := some (.frame f) } }
      else s
  else s

/-- A test that is owed whether the Fibre port can begin is made. -/
def State.tryFibre (s : State) : State :=
  if s.due.fibre then State.beginFibre { s with due := { s.due with fibre := false } } else s

/-! ## The premises egress arbiter (R53) -/

/-- The FIFO whose head is chosen (R53). -/
def State.arbiterChoice (s : State) : Option PremisesSource :=
  match s.egress.priority, s.downstream.fibre, s.downstream.radio with
  | _ :: _, _, _ => some .priority
  | [], _ :: _, [] => some .fibre
  | [], [], _ :: _ => some .radio
  | [], _ :: _, _ :: _ => some (match s.egress.lastServed with
    | .fibre => .radio
    | .radio => .fibre)
  | [], [], [] => none

/-- The last-served mark after a choice (R53). -/
def markAfter (old : Uplink) : PremisesSource → Uplink
  | .priority => old
  | .fibre => .fibre
  | .radio => .radio

/-- An idle Premises port begins the frame that the arbiter chooses (R53). -/
def State.beginPremises (s : State) : State :=
  if s.egress.sending = none then
    match s.arbiterChoice with
    | some src =>
      { s with egress := { s.egress with sending := some src, lastServed := markAfter s.egress.lastServed src } }
    | none => s
  else s

/-- A choice that is owed is made. -/
def State.tryPremises (s : State) : State :=
  if s.due.premises then State.beginPremises { s with due := { s.due with premises := false } } else s

/-! ## The status snapshot (chapter 11, Formats on the wire) -/

/-- The 24 bytes of the status snapshot. -/
def State.snapshot (s : State) : Bytes :=
  beBytes 1 s.service.mode.code
    ++ beBytes 1 (bitsNat [s.steering.begun, s.steering.reserve, s.control.hold.isSome, s.scheduler.sampled])
    ++ beBytes 1 s.station.force.code ++ beBytes 1 s.monitor.state.code ++ beBytes 1 s.monitor.flapCount
    ++ beBytes 1 s.bearer.state.code ++ beBytes 1 s.lastSignal ++ beBytes 1 s.effectiveCeiling
    ++ beBytes 1 s.allowance.ceiling ++ beBytes 1 s.link.errors.code ++ beBytes 1 s.control.errors.code
    ++ beBytes 1 s.held.length ++ beBytes 4 s.scheduler.estimate ++ beBytes 4 s.usableRate
    ++ beBytes 2 s.scheduler.balance ++ beBytes 2 s.pool.free

/-! ## Notices (R50, R180, R181) -/

/-- The frames of the priority FIFO, a place reserved for a reply counted as a frame (R49, R50). -/
def State.priorityCount (s : State) : Nat :=
  s.egress.priority.length + if s.control.execution.isSome then 1 else 0

/-- The notice frame for the present causes and snapshot (R181, Formats on the wire). -/
def State.noticeFrame (s : State) : Bytes :=
  padTo Config.minFrame (addrBytes s.station.noticeAddress ++ addrBytes s.station.address
    ++ beBytes 2 s.station.controlType ++ beBytes 1 2 ++ beBytes 1 s.notices.causes.code ++ s.snapshot)

/-- The 100 ms spacing since the last notice has passed, or none has been written (R181). -/
def State.spacingPassed (s : State) : Bool :=
  match s.notices.last with
  | none => true
  | some r => decide (r + Config.noticeSpacing ≤ s.now)

/-- The four conditions of a notice hold together (R50, R181). -/
def State.noticeReady (s : State) : Bool :=
  decide (s.notices.causes ≠ Causes.empty) && decide (s.station.noticeAddress ≠ 0) && s.spacingPassed &&
    decide (s.priorityCount < Config.smallFifo) && decide (cellsFor s.noticeFrame.length ≤ s.pool.free)

/-- A notice is written to the priority FIFO. The frame shows the causes and the snapshot before its own cell is taken,
and a POOL raised by that cell stays pending (log 12). -/
def State.writeNotice (s : State) : State :=
  let frame := s.noticeFrame
  let s := { s with
    notices := { causes := Causes.empty, last := some s.now }
    egress := { s.egress with priority := s.egress.priority ++ [frame] }
    due := { s.due with premises := true } }
  (s.bump ctrNotices).takeCells (cellsFor frame.length)

/-- The notice test (R181). -/
def State.noticeTest (s : State) : State := if s.noticeReady then s.writeNotice else s

/-- A notice test that is owed is made. -/
def State.tryNotice (s : State) : State :=
  if s.due.notice then State.noticeTest { s with due := { s.due with notice := false } } else s

/-! ## The end of an event -/

/-- An event ends: what it owes is done in this order (log 4), and nothing is owed afterwards. -/
def State.settle (s : State) : State :=
  let s := s.tryMode.pumpRadio.tryFibre.tryPremises.tryNotice.tryPremises
  { s with due := Due.nothing }

/-- The outcome of a command whose effect is `s`: the event ends and the part goes on. -/
def State.done (s : State) : Host.Outcome State Fault Refusal := .next s.settle

end Sys2Proof.Machine
end

