-- ==== Sys2Proof/Machine/Classifier.lean ====
section
/-! DEFINITION. The Classifier and the Flow Table: header fields, the flow key, the rules, the bucket, lookup, learning,
eviction and aging (chapters 1 and 2), and what they do with an upstream frame. -/

namespace Sys2Proof.Machine

/-! ## Header fields (R2 to R6) -/

/-- What the Classifier reads of an IP header that it accepts (R3, R4). -/
structure IpHeader where
  kind : KeyKind
  protocol : Nat
  dscp : Nat
  source : Bytes
  dest : Bytes
  /-- The source and destination ports, absent for a frame that carries none (R5). -/
  ports : Option (Nat × Nat)
  /-- The protocol calls for ports and the four port bytes run past the end of the frame (R6). -/
  shortPorts : Bool
  deriving DecidableEq, Repr

/-- What the Classifier reads of a frame. -/
structure Fields where
  etherType : Nat
  /-- The VLAN priority, absent for an untagged frame (R2). -/
  vlan : Option Nat
  ip : Option IpHeader
  /-- The frame has a header fault of either kind (R6). -/
  fault : Bool
  deriving DecidableEq, Repr

/-- The protocols that call for ports (R5). -/
def portProtocol (p : Nat) : Bool := p = 6 || p = 17 || p = 132

/-- The ports at a position of a frame, for a header that calls for them or does not (R5). -/
def readPorts (data : Bytes) (pos : Nat) (called : Bool) : Option (Nat × Nat) :=
  if called ∧ pos + 4 ≤ data.length then some (field pos 2 data, field (pos + 2) 2 data) else none

/-- The IPv4 header at an offset, if it is accepted (R3). -/
def readIpv4 (data : Bytes) (o : Nat) : Option IpHeader :=
  let first := field o 1 data
  let length := first % 16 * 4
  if o < data.length ∧ first / 16 = 4 ∧ 20 ≤ length ∧ o + length ≤ data.length then
    let fragment := field (o + 6) 2 data
    let whole := fragment % 8192 = 0 ∧ !fragment.testBit 13
    let protocol := field (o + 9) 1 data
    let called := portProtocol protocol && decide whole
    some
      { kind := .ipv4, protocol := protocol, dscp := field (o + 1) 1 data / 4,
        source := slice (o + 12) 4 data, dest := slice (o + 16) 4 data,
        ports := readPorts data (o + length) called,
        shortPorts := called && decide (data.length < o + length + 4) }
  else none

/-- The IPv6 header at an offset, if it is accepted (R4). -/
def readIpv6 (data : Bytes) (o : Nat) : Option IpHeader :=
  if o + 40 ≤ data.length ∧ field o 1 data / 16 = 6 then
    let protocol := field (o + 6) 1 data
    let called := portProtocol protocol
    some
      { kind := .ipv6, protocol := protocol, dscp := field o 2 data / 16 % 256 / 4,
        source := slice (o + 8) 16 data, dest := slice (o + 24) 16 data,
        ports := readPorts data (o + 40) called,
        shortPorts := called && decide (data.length < o + 44) }
  else none

/-- The fields of a frame (R2 to R6). -/
def readFields (data : Bytes) : Fields :=
  let tagged := field 12 2 data = 0x8100
  let etherType := if tagged then field 16 2 data else field 12 2 data
  let vlan := if tagged then some (field 14 1 data / 32) else none
  let o := if tagged then 18 else 14
  let ip :=
    if etherType = 0x0800 then readIpv4 data o else if etherType = 0x86DD then readIpv6 data o else none
  let fault := match ip with
    | some h => h.shortPorts
    | none => etherType = 0x0800 || etherType = 0x86DD
  { etherType := etherType, vlan := vlan, ip := ip, fault := fault }

/-! ## The flow key and its bucket (R7, R23) -/

/-- The key image of a frame (R7). -/
def keyImage (f : Fields) : Bytes :=
  match f.ip with
  | none => [0, 0] ++ beBytes 2 f.etherType
  | some h =>
    let kind : Byte := if h.kind = .ipv4 then 4 else 6
    let ports := h.ports.getD (0, 0)
    [kind] ++ beBytes 1 h.protocol ++ [if h.ports.isSome then 1 else 0, 0] ++ h.source ++ h.dest
      ++ beBytes 2 ports.1 ++ beBytes 2 ports.2

/-- The bucket of a key image (R23). -/
def bucketOf (image : Bytes) : Nat := onesSum image % 256

/-- The four table indexes of a bucket (R20). -/
def waysOf (bucket : Nat) : List Nat := [4 * bucket, 4 * bucket + 1, 4 * bucket + 2, 4 * bucket + 3]

/-! ## The Class Rule Table (R9, R10) -/

/-- A number lies in a range, both ends included. -/
def MatchRange.has (r : MatchRange) (v : Nat) : Bool := decide (r.low ≤ v) && decide (v ≤ r.high)

/-- An absent match field fits; a present one is tested (R9). -/
def fitsField {α : Type} (field : Option α) (test : α → Bool) : Bool :=
  match field with
  | none => true
  | some x => test x

/-- A port range fits a frame without ports, and otherwise tests the port (R9). -/
def fitsPort (port : Option Nat) (r : MatchRange) : Bool :=
  match port with
  | none => true
  | some p => r.has p

/-- A rule fits a frame (R9). -/
def Rule.fits (r : Rule) (f : Fields) : Bool :=
  let ports := f.ip.bind (·.ports)
  r.valid
    && fitsField r.etherType (fun e => decide (f.etherType = e))
    && fitsField r.protocol (fun p => decide (f.ip.map (·.protocol) = some p))
    && fitsField r.dscp (fun x => match f.ip with
      | some h => x.has h.dscp
      | none => false)
    && fitsField r.sourcePort (fitsPort (ports.map (·.1)))
    && fitsField r.destPort (fitsPort (ports.map (·.2)))
    && fitsField r.vlan (fun x => match f.vlan with
      | some v => x.has v
      | none => false)

/-- The lowest-indexed rule that fits a frame (R10). -/
def State.firstFit (s : State) (f : Fields) : Option (Fin 64) :=
  (List.finRange 64).find? fun i => s.rules[i].fits f

/-- A counter value incremented, holding at the top. -/
def countUp (v : Nat) : Nat := min (v + 1) Config.counterTop

/-- The rules are consulted: the class found, and the state with the one count made (R10). -/
def State.consult (s : State) (f : Fields) : TrafficClass × State :=
  match s.firstFit f with
  | some i =>
    let r := s.rules[i]
    (r.result, { s with rules := s.rules.set i.val { r with matchCount := countUp r.matchCount } i.isLt })
  | none => (s.station.defaultClass, s.bump ctrRuleMiss)

/-! ## Lookup, learning, eviction (R24 to R29) -/

/-- The way of a bucket whose key equals the image (R24). -/
def State.lookup (s : State) (image : Bytes) : Option Nat :=
  (waysOf (bucketOf image)).find? fun i =>
    match s.entry i with
    | some e => decide (e.key = image)
    | none => false

/-- The lowest-numbered free way of a bucket (R26). -/
def State.freeWay (s : State) (image : Bytes) : Option Nat :=
  (waysOf (bucketOf image)).find? fun i => (s.entry i).isNone

/-- The age of an entry, modulo 2^32 (R22). -/
def State.age (s : State) (e : FlowEntry) : Nat := (s.seconds + 4294967296 - e.lastSeen) % 4294967296

/-- The age of the entry at an index, if it may be evicted (R28). -/
def State.evictable (s : State) (i : Nat) : Option Nat :=
  match s.entry i with
  | some e => if e.idle then some (s.age e) else none
  | none => none

/-- Of two candidates for eviction the older, and of equals the first (R28). -/
def State.olderOf (s : State) (best : Option Nat) (i : Nat) : Option Nat :=
  match s.evictable i, best with
  | none, _ => best
  | some _, none => some i
  | some a, some b => if (s.evictable b).getD 0 < a then some i else best

/-- The way whose entry is evicted for a missing key (R28). -/
def State.evictWay (s : State) (image : Bytes) : Option Nat :=
  (waysOf (bucketOf image)).foldl s.olderOf none

/-- A new entry (R27). -/
def State.newEntry (s : State) (image : Bytes) (c : TrafficClass) (u : Uplink) : FlowEntry :=
  { key := image, cls := c, uplink := u, lastSeen := s.seconds, fibrePending := 0, radioPending := 0, held := 0,
    move := none }

/-- A flow is learned in a way and its frame placed on the target (R27). -/
def State.learnAt (s : State) (i : Nat) (image : Bytes) (c : TrafficClass) (u : Uplink) (f : UpFrame) : State :=
  ((s.setEntry i (s.newEntry image c u)).bump ctrLearned).sendTo u c { f with flow := some i }

/-- What steering's answer does with a frame that no entry takes charge of: it goes to its target under R45, or is
dropped and counted (R112). -/
def State.sendOrDrop (s : State) (answer : Target) (c : TrafficClass) (f : UpFrame) : State :=
  match answer with
  | .to u => s.sendTo u c f
  | .notAdmitted => s.dropNotAdmitted c f
  | .fibreOnly => s.dropFibreOnly c f

/-- A frame travels unlearned: it is counted and steered as FOLLOW (R29). -/
def State.travelUnlearned (s : State) (c : TrafficClass) (f : UpFrame) : State :=
  (s.bump ctrUnlearned).sendOrDrop (s.target .follow c none) c f

/-- A frame of a missing key with its class found and the hold free (R26). -/
def State.missFrame (s : State) (image : Bytes) (c : TrafficClass) (f : UpFrame) : State :=
  if (s.classEntry c).idleTimeout = 0 then s.travelUnlearned c f
  else
    match s.target (s.classEntry c).policy c none with
    | .notAdmitted => s.dropNotAdmitted c f
    | .fibreOnly => s.dropFibreOnly c f
    | .to u =>
      match s.freeWay image with
      | some i => s.learnAt i image c u f
      | none =>
        match s.evictWay image with
        | some i => (s.bump ctrEvicted).learnAt i image c u f
        | none => (s.bump ctrLearnFails).travelUnlearned c f

/-- A frame that hits an entry: last-seen is refreshed, and the frame is steered and placed by its entry (R25, R112). -/
def State.hitFrame (s : State) (i : Nat) (e : FlowEntry) (f : UpFrame) : State :=
  let s := s.setEntry i { e with lastSeen := s.seconds }
  match s.target (s.classEntry e.cls).policy e.cls (some e.uplink) with
  | .notAdmitted => s.dropNotAdmitted e.cls f
  | .fibreOnly => s.dropFibreOnly e.cls f
  | .to u => s.placeLearned i e u f

/-- The frame of some bytes received now, with a class and an index. -/
def State.upFrame (s : State) (data : Bytes) (c : Option TrafficClass) (flow : Option Nat) : UpFrame :=
  { data := data, cls := c, arrival := s.now, flow := flow }

/-- The handling of a non-control upstream frame in a begun mode (R1, R12, R24 to R29). -/
def State.handleFrame (s : State) (data : Bytes) : State :=
  let fields := readFields data
  let image := keyImage fields
  let s := if fields.fault then s.bump ctrHeaderFaults else s
  match s.lookup image with
  | some i =>
    match s.entry i with
    | some e => s.hitFrame i e (s.upFrame data (some e.cls) (some i))
    | none => s
  | none =>
    if s.control.hold.isSome then
      s.travelUnlearned s.station.defaultClass (s.upFrame data (some s.station.defaultClass) none)
    else
      let found := s.consult fields
      found.2.missFrame image found.1 (s.upFrame data (some found.1) none)

/-! ## Aging (R35) -/

/-- A visit of the aging sweep to a way (R35). -/
def State.ageVisit (s : State) (i : Nat) : State :=
  match s.entry i with
  | some e =>
    if e.idle ∧ (s.classEntry e.cls).idleTimeout < s.age e then (s.removeEntry i).bump ctrAged else s
  | none => s

/-- A visit of the aging sweep to the way at a table index (R35). A free way is not visited. -/
def execAgingVisit (t : Reading) (way : Nat) (s : State) : Host.Outcome State Fault Refusal :=
  ((s.startAt t).ageVisit way).done

end Sys2Proof.Machine
end

