-- ==== Sys2Proof/Machine/Monitor.lean ====
section
/-! DEFINITION. The Fibre Path Monitor: the light line, probes, hits and misses, the hold-down deadline and the calm
period (chapter 4). -/

namespace Sys2Proof.Machine

/-! ## Shared operations of the monitor -/

/-- Probing runs while the probe destination is nonzero and LIGHT_LOST is inactive (R59). -/
def State.probingRuns (s : State) : Bool := decide (s.probe.destination ≠ 0) && !s.lightLost

/-- The hold-down time for a flap count, in milliseconds (R68, R69). -/
def State.holdDown (s : State) (flaps : Nat) : Nat := s.probe.baseHoldDown * 2 ^ min flaps 4 * 1000

/-- Entry into DOWN from UP or SUSPECT, a flap (R68). -/
def State.flap (s : State) : State :=
  let flaps := min (s.monitor.flapCount + 1) 15
  let s := { s with monitor := { s.monitor with
    flapCount := flaps, deadline := some (s.now + s.holdDown flaps), hits := 0, misses := 0, calmStart := none } }
  (s.bump ctrDownEntries).setFibreState .down

/-- Entry into DOWN from RECOVERING, a relapse (R69). -/
def State.relapse (s : State) : State :=
  let s := { s with monitor := { s.monitor with
    hits := 0, deadline := some (s.now + s.holdDown s.monitor.flapCount), calmStart := none } }
  (s.bump ctrDownEntries).setFibreState .down

/-- The hold-down deadline has passed (R70). -/
def State.deadlinePassed (s : State) : Bool :=
  match s.monitor.deadline with
  | some d => decide (d ≤ s.now)
  | none => false

/-- A RECOVERING fibre becomes UP when the hits have reached the restore count, or probing is stopped, and the deadline
has passed (R70). -/
def State.tryRestore (s : State) : State :=
  if s.monitor.state = .recovering ∧ s.deadlinePassed ∧
      (s.probe.restoreCount ≤ s.monitor.hits ∨ !s.probingRuns) then
    State.setFibreState
      { s with monitor := { s.monitor with misses := 0, hits := 0, deadline := none, calmStart := some s.now } } .up
  else s

/-- The fibre state acts on a hit (R67, R69, R70). -/
def State.hitEffect (s : State) : State :=
  match s.monitor.state with
  | .up => s
  | .suspect => State.setFibreState { s with monitor := { s.monitor with misses := 0 } } .up
  | .down => (State.setFibreState { s with monitor := { s.monitor with hits := 1 } } .recovering).tryRestore
  | .recovering =>
    State.tryRestore { s with monitor := { s.monitor with hits := min (s.monitor.hits + 1) 15 } }

/-- The fibre state acts on a miss (R67, R69). -/
def State.missEffect (s : State) : State :=
  match s.monitor.state with
  | .up =>
    if s.probe.missLimit ≤ 1 then s.flap
    else State.setFibreState { s with monitor := { s.monitor with misses := 1 } } .suspect
  | .suspect =>
    if s.probe.missLimit ≤ s.monitor.misses + 1 then s.flap
    else { s with monitor := { s.monitor with misses := s.monitor.misses + 1 } }
  | .down => s
  | .recovering => s.relapse

/-- The outstanding probe is judged at a probe instant: a miss if its hit mark is clear (R66). -/
def State.judgeOutstanding (s : State) : State :=
  match s.monitor.outstanding with
  | some o => if o.hit then s else (s.bump ctrMisses).missEffect
  | none => s

/-- The 60 bytes of a probe (R63). -/
def probeFrame (destination source : Addr) (etherType : Nat) (token : BitVec 128) (sequence : Nat) : Bytes :=
  padTo 60 (addrBytes destination ++ addrBytes source ++ beBytes 2 etherType ++ beBytes 16 token.toNat
    ++ beBytes 2 sequence)

/-- A new probe is issued and handed to the Fibre Port Unit in place of one still waiting (R62, R63). -/
def State.issueProbe (s : State) : State :=
  let n := s.monitor.nextSequence
  let frame := probeFrame s.probe.destination s.station.address s.probe.etherType s.probe.token n
  { s with
    monitor := { s.monitor with
      outstanding := some { sequence := n, hit := false }, nextSequence := (n + 1) % 65536 }
    fibre := { s.fibre with waitingProbe := some frame }
    due := { s.due with fibre := true } }

/-- A probe instant that falls at a reading: the outstanding probe is judged, a new probe issued, and the next
instant set one interval later (R62, R66). -/
def State.probeInstantAt (s : State) (instant : Reading) : State :=
  let s := s.judgeOutstanding.issueProbe
  { s with monitor := { s.monitor with nextProbe := some (instant + s.probe.interval * 100) } }

/-- Probing stops: the outstanding probe is abandoned and the next instant cleared (R60, R71). A probe already handed to
the Fibre Port Unit is still sent (log 10). -/
def State.stopProbing (s : State) : State :=
  { s with monitor := { s.monitor with outstanding := none, nextProbe := none } }

/-- A frame carries the probe ethertype and the token as they stand (R64). With the ethertype written as 0x8100 a
tagged frame can meet both conditions, and counts as carrying them (DESIGN CHOICE, log 27). -/
def State.carriesToken (s : State) (data : Bytes) : Bool :=
  decide (field 12 2 data = s.probe.etherType) && decide (field 14 16 data = s.probe.token.toNat)

/-- A frame from the Fibre port is a probe reply (R64). -/
def State.isProbeReply (s : State) (data : Bytes) : Bool := s.probingRuns && s.carriesToken data

/-- A reply comes while the light line keeps probing stopped: it is counted as late (R60), and being no probe reply then
it is not consumed (R64) (DESIGN CHOICE, log 26). -/
def State.replyInDark (s : State) (data : Bytes) : Bool :=
  s.lightLost && decide (s.probe.destination ≠ 0) && s.carriesToken data

/-- A probe reply is judged by its sequence: a hit or late (R65). -/
def State.judgeReply (s : State) (data : Bytes) : State :=
  match s.monitor.outstanding with
  | some o =>
    if !o.hit ∧ field 30 2 data = o.sequence then
      State.hitEffect
        (State.bump { s with monitor := { s.monitor with outstanding := some { o with hit := true } } } ctrHits)
    else s.bump ctrLateReplies
  | none => s.bump ctrLateReplies

/-- The flap count falls by 1, not below 0, and the calm start is set (R72). -/
def State.lowerFlaps (s : State) (start : Reading) : State :=
  { s with monitor := { s.monitor with flapCount := s.monitor.flapCount - 1, calmStart := some start } }

/-! ## The commands -/

/-- LIGHT_LOST becomes active (R60). With the line already active nothing changes. -/
def execLightLostActive (t : Reading) (s : State) : Host.Outcome State Fault Refusal :=
  let s := s.startAt t
  if s.lightLost then s.done
  else
    let s := State.stopProbing { s with lightLost := true }
    match s.monitor.state with
    | .up | .suspect => s.flap.done
    | .recovering => s.relapse.done
    | .down => s.done

/-- LIGHT_LOST becomes inactive (R61). With the line already inactive nothing changes. -/
def execLightLostInactive (t : Reading) (s : State) : Host.Outcome State Fault Refusal :=
  let s := s.startAt t
  if !s.lightLost then s.done
  else
    let s := { s with lightLost := false }
    if s.probe.destination = 0 then s.hitEffect.done else (s.probeInstantAt s.now).done

/-- A probe instant (R62, R66). While probing is stopped none is due. -/
def execProbeInstant (t : Reading) (s : State) : Host.Outcome State Fault Refusal :=
  let s := s.startAt t
  match s.monitor.nextProbe with
  | none => s.done
  | some r => ((s.reach r).probeInstantAt r).done

/-- The hold-down deadline passes (R70). -/
def execHoldDownDeadline (t : Reading) (s : State) : Host.Outcome State Fault Refusal :=
  let s := s.startAt t
  match s.monitor.deadline with
  | none => s.done
  | some d => (s.reach d).tryRestore.done

/-- The end of a calm period (R72). -/
def execCalmPeriodEnd (t : Reading) (s : State) : Host.Outcome State Fault Refusal :=
  let s := s.startAt t
  match s.monitor.calmStart with
  | none => s.done
  | some c =>
    let finish := c + s.probe.calmPeriod * 60000
    ((s.reach finish).lowerFlaps finish).done

end Sys2Proof.Machine
end

