-- ==== Sys2Proof/Machine/Ports.lean ====
section
/-! DEFINITION. The Premises port and the Fibre port: frames arriving in cells, what is done with a frame received whole,
and the ends of transmissions (chapter 3; R101, R102, R113, R170). -/

namespace Sys2Proof.Machine

/-! ## Cells for arriving frames (R44, R51) -/

/-- What becomes of a cell that an arriving frame needs. -/
inductive CellOutcome where
  | taken
  | discard (counter : Nat)
  deriving DecidableEq, Repr

/-- A Premises port frame that holds `held` cells needs one more (R44). -/
def State.premisesCell (s : State) (held : Nat) : CellOutcome :=
  if s.pool.free = 0 then .discard ctrPremisesShortage
  else if Config.maxFrameCells ≤ held then .discard ctrOverLength
  else .taken

/-- The occupancy that the downstream limit measures (R42). -/
def State.downstreamOccupancy (s : State) : Nat :=
  byteCells s.downstream.fibre + byteCells s.downstream.radio + s.fibreAssembly.cells

/-- A Fibre port frame that holds `held` cells needs one more (R51). Where a thirteenth cell is needed with no cell free
or the downstream limit reached, the frame counts as refused, not as over-length (DESIGN CHOICE, log 11). -/
def State.fibreCell (s : State) (held : Nat) : CellOutcome :=
  if s.pool.free = 0 then .discard ctrFibreRefused
  else if s.station.downstreamLimit ≤ s.downstreamOccupancy then .discard ctrFibreRefused
  else if Config.maxFrameCells ≤ held then .discard ctrOverLength
  else .taken

/-- One more cell is taken for the Premises port frame now arriving, or the frame is discarded and the rest of it
ignored (R44). -/
def State.premisesTake (s : State) : State :=
  let a := s.premisesAssembly
  match s.premisesCell a.cells with
  | .taken => State.takeCells { s with premisesAssembly := { a with cells := a.cells + 1 } } 1
  | .discard i =>
    (State.bump { s with premisesAssembly := { cells := 0, ignoring := true } } i).returnCells a.cells

/-- One more cell is taken for the Fibre port frame now arriving, or the frame is discarded and the rest of it ignored
(R51). -/
def State.fibreTake (s : State) : State :=
  let a := s.fibreAssembly
  match s.fibreCell a.cells with
  | .taken => State.takeCells { s with fibreAssembly := { a with cells := a.cells + 1 } } 1
  | .discard i =>
    (State.bump { s with fibreAssembly := { cells := 0, ignoring := true } } i).returnCells a.cells

/-- The cells that a Premises port frame still lacks when it ends are taken one by one, until the frame is discarded
(log 5). -/
def State.premisesFill : Nat → State → State
  | 0, s => s
  | n + 1, s => if s.premisesAssembly.ignoring then s else State.premisesFill n s.premisesTake

/-- The cells that a Fibre port frame still lacks when it ends are taken one by one, until the frame is discarded
(log 5). -/
def State.fibreFill : Nat → State → State
  | 0, s => s
  | n + 1, s => if s.fibreAssembly.ignoring then s else State.fibreFill n s.fibreTake

/-- The first byte of a frame begins a new arrival: a frame being ignored has ended before it. -/
def Assembly.begin (a : Assembly) (n : Nat) : Assembly := if n = 0 then { a with ignoring := false } else a

/-- The cell numbered `n` of a Premises port frame is needed (R44). A cell of a frame being ignored, or out of turn, is
no event of the part (log 5). -/
def execPremisesCellTake (t : Reading) (n : Nat) (s : State) : Host.Outcome State Fault Refusal :=
  let s := s.startAt t
  let s := { s with premisesAssembly := s.premisesAssembly.begin n }
  if s.premisesAssembly.ignoring ∨ s.premisesAssembly.cells ≠ n then s.done else s.premisesTake.done

/-- The cell numbered `n` of a Fibre port frame is needed (R51). A cell of a frame being ignored, or out of turn, is no
event of the part (log 5). -/
def execFibreCellTake (t : Reading) (n : Nat) (s : State) : Host.Outcome State Fault Refusal :=
  let s := s.startAt t
  let s := { s with fibreAssembly := s.fibreAssembly.begin n }
  if s.fibreAssembly.ignoring ∨ s.fibreAssembly.cells ≠ n then s.done else s.fibreTake.done

/-! ## A Premises port frame received whole (R44, R49, R101, R102, R170) -/

/-- A frame is a control frame for the part (R170). With the control ethertype written as 0x8100 a tagged frame can meet
the conditions, and is taken as one (DESIGN CHOICE, log 27). -/
def State.isControl (s : State) (data : Bytes) : Bool :=
  decide (field 12 2 data = s.station.controlType) &&
    (decide (addrField 0 data = s.station.address) || decide (addrField 0 data = broadcastAddr))

/-- A control frame joins the control queue, or is dropped at a full one (R49, R179). -/
def State.queueControl (s : State) (data : Bytes) : State :=
  if s.control.queue.length < Config.smallFifo then
    { s with control := { s.control with queue := s.control.queue ++ [data] } }
  else
    let s := { s with control := { s.control with errors := { s.control.errors with queueFull := true } } }
    (s.bump ctrControlQueueFull).returnCells (cellsFor data.length)

/-- A whole frame of an accepted length is dispatched, its cells passing with it (R44). -/
def State.dispatchFrame (s : State) (data : Bytes) : State :=
  if s.isControl data then s.queueControl data
  else match s.service.mode with
    | .normal | .fallback | .isolated => s.handleFrame data
    | .pass => s.sendFibre (s.upFrame data none none)
    | .hold => (s.bump ctrHoldUpstream).returnCells (cellsFor data.length)

/-- Why a frame that ends is discarded, if it is (R44, R51). A frame both too short and with a bad check sequence counts
as too short (log 11). -/
def endFault (data : Bytes) (checkGood : Bool) : Option Nat :=
  if data.length < Config.minFrame then some ctrUnderLength
  else if !checkGood then some ctrFrameCheck
  else none

/-- A frame ends on the Premises port (R44). -/
def execPremisesFrameReceived (t : Reading) (data : Bytes) (checkGood : Bool) (s : State) :
    Host.Outcome State Fault Refusal :=
  let s := s.startAt t
  let s := State.premisesFill (cellsFor data.length - s.premisesAssembly.cells) s
  let a := s.premisesAssembly
  let s := { s with premisesAssembly := Assembly.empty }
  if a.ignoring then s.done
  else
    match endFault data checkGood with
    | some i => ((s.bump i).returnCells a.cells).done
    | none => ((s.returnCells (a.cells - cellsFor data.length)).dispatchFrame data).done

/-! ## A Fibre port frame received whole (R51, R64, R101, R102, R113) -/

/-- A frame becomes eligible in the fibre-downstream FIFO (R53, R113). -/
def State.joinDownstreamFibre (s : State) (data : Bytes) : State :=
  { s with
    downstream := { s.downstream with fibre := s.downstream.fibre ++ [data] }
    due := { s.due with premises := true } }

/-- A whole frame of the Fibre port is judged by the monitor, and if it is no probe reply goes on by the mode. A reply
that comes while the light is lost is counted as late and goes on too (R60, log 26). -/
def State.takeFibreFrame (s : State) (data : Bytes) : State :=
  if s.isProbeReply data then (s.returnCells (cellsFor data.length)).judgeReply data
  else
    let s := if s.replyInDark data then s.bump ctrLateReplies else s
    match s.service.mode with
    | .hold => (s.bump ctrHoldDownstream).returnCells (cellsFor data.length)
    | .pass | .normal | .fallback | .isolated => s.joinDownstreamFibre data

/-- A frame ends on the Fibre port (R51). -/
def execFibreFrameReceived (t : Reading) (data : Bytes) (checkGood : Bool) (s : State) :
    Host.Outcome State Fault Refusal :=
  let s := s.startAt t
  let s := State.fibreFill (cellsFor data.length - s.fibreAssembly.cells) s
  let a := s.fibreAssembly
  let s := { s with fibreAssembly := Assembly.empty }
  if a.ignoring then s.done
  else
    match endFault data checkGood with
    | some i => ((s.bump i).returnCells a.cells).done
    | none => ((s.returnCells (a.cells - cellsFor data.length)).takeFibreFrame data).done

/-! ## The ends of transmissions (R46, R50, R53) -/

/-- A transmission ends on the Fibre port: a frame's cells return and its fibre pending count falls; the next probe or
frame begins (R46). With the port idle no transmission ends. -/
def execFibreTransmitEnd (t : Reading) (s : State) : Host.Outcome State Fault Refusal :=
  let s := s.startAt t
  match s.fibre.sending with
  | none => s.done
  | some x =>
    let s := { s with fibre := { s.fibre with sending := none }, due := { s.due with fibre := true } }
    match x with
    | .probe _ => s.done
    | .frame f => ((s.returnCells f.cells).frameGone .fibre f).done

/-- The frame that the Premises port was sending leaves the head of its FIFO, and its cells return (R50, R53). -/
def State.finishPremises (s : State) (src : PremisesSource) : State :=
  match src with
  | .priority =>
    State.returnCells { s with egress := { s.egress with priority := s.egress.priority.drop 1 } }
      (byteCells (s.egress.priority.take 1))
  | .fibre =>
    State.returnCells { s with downstream := { s.downstream with fibre := s.downstream.fibre.drop 1 } }
      (byteCells (s.downstream.fibre.take 1))
  | .radio =>
    State.returnCells { s with downstream := { s.downstream with radio := s.downstream.radio.drop 1 } }
      (byteCells (s.downstream.radio.take 1))

/-- A transmission ends on the Premises port, and the arbiter chooses the next frame (R53). With the port idle no
transmission ends. -/
def execPremisesTransmitEnd (t : Reading) (s : State) : Host.Outcome State Fault Refusal :=
  let s := s.startAt t
  match s.egress.sending with
  | none => s.done
  | some src =>
    let s := { s with egress := { s.egress with sending := none }, due := { s.due with premises := true } }
    (s.finishPremises src).done

end Sys2Proof.Machine
end

