-- ==== Sys2Proof/Machine/Allowance.lean ====
section
/-! DEFINITION. The Allowance Meter: the counts, the thresholds and the allowance ceiling (chapter 10). -/

namespace Sys2Proof.Machine

/-- The threshold of a step in bytes; 0 while total is 0 (R162, R166). -/
def Allowance.threshold (a : Allowance) (st : AllowanceStep) : Nat :=
  a.total * Config.megabyte * st.fraction / 16

/-- The allowance is exhausted (R166). -/
def Allowance.exhausted (a : Allowance) : Bool :=
  decide (0 < a.total) && decide (a.total * Config.megabyte ≤ a.used)

/-- The least ceiling among the steps whose threshold used has reached, or 7 if none (R166). -/
def Allowance.stepCeiling (a : Allowance) : Nat :=
  (a.steps.toList.filter fun st => decide (a.threshold st ≤ a.used)).foldl (fun c st => min c st.ceiling) 7

/-- The allowance ceiling by the table of R166. -/
def Allowance.ceilingNow (a : Allowance) : Nat :=
  if a.total = 0 then 7 else if a.total * Config.megabyte ≤ a.used then 0 else a.stepCeiling

/-- The allowance ceiling is re-evaluated; a new value is handed on (R166). -/
def State.evaluateAllowance (s : State) : State :=
  let c := s.allowance.ceilingNow
  if c = s.allowance.ceiling then s
  else
    let s' := { s with allowance := { s.allowance with ceiling := c } }
    State.admissionChange s ((s'.raise .allowance).bump ctrCeilingChanges)

/-- Bytes are added to used, which saturates, and the ceiling is re-evaluated (R163 to R166). -/
def State.meter (s : State) (bytes counter : Nat) : State :=
  let s := { s with allowance := { s.allowance with used := min (s.allowance.used + bytes) Config.usedTop } }
  (s.bump counter).evaluateAllowance

end Sys2Proof.Machine
end

