-- ==== Sys2Proof/Machine/Control.lean ====
section
/-! DEFINITION. The Control Unit: the form of control frames, the execution of requests and their results, the reply, the
table hold and notices (chapter 11). -/

namespace Sys2Proof.Machine

/-! ## The form of a control frame (R171) -/

/-- The requests that bytes hold, `n` of them, or none where a head or a data length runs past the end. -/
def parseRequests : Nat → Bytes → Option (List Request)
  | 0, _ => some []
  | n + 1, bs =>
    let length := field 11 2 bs
    if bs.length < 13 + length then none
    else
      (parseRequests n (bs.drop (13 + length))).map fun rest =>
        { kind := field 0 1 bs, table := field 1 1 bs, index := field 2 2 bs, count := field 4 2 bs,
          options := field 6 1 bs, select := field 7 4 bs, data := slice 13 length bs } :: rest

/-- The requests of a well-formed control frame; none for a malformed one (R171). -/
def parseFrame (frame : Bytes) : Option (List Request) :=
  let n := field 14 1 frame
  if n = 0 ∨ 16 < n then none else parseRequests n (frame.drop 15)

/-- The cells of a reply frame of the largest reply size (R49). -/
def replyCellsFor (largest : Nat) : Nat := cellsFor (largest + 14)

/-- The execution that begins with a frame of these requests (R49, R172). -/
def State.newExecution (s : State) (frame : Bytes) (requests : List Request) : Execution :=
  { todo := requests, results := [], requests := requests.length, largest := s.station.largestReply,
    replyCells := replyCellsFor s.station.largestReply, broadcast := decide (addrField 0 frame = broadcastAddr),
    restart := false }

/-- A malformed frame is discarded at its turn (R49, R171). -/
def State.discardMalformed (s : State) (frame : Bytes) : State :=
  let s := { s with control := { s.control with
    queue := s.control.queue.drop 1, errors := { s.control.errors with malformed := true } } }
  (s.bump ctrMalformed).returnCells (cellsFor frame.length)

/-- The Control Unit turns to the frame at the head of its queue: a malformed one is discarded; a well-formed one is
begun if the priority FIFO and the free count have room, and otherwise waits (R49, R171). -/
def State.turnTo (s : State) (frame : Bytes) : State :=
  match parseFrame frame with
  | none => s.discardMalformed frame
  | some requests =>
    let x := s.newExecution frame requests
    if s.egress.priority.length < Config.smallFifo ∧ x.replyCells ≤ s.pool.free then
      State.takeCells { s with control := { s.control with execution := some x } } x.replyCells
    else s

/-- The Control Unit begins the head control frame (R49, R171). While a frame is being executed, or a RESTART has yet to
act, no frame's turn comes (log 8). -/
def execControlFrameBegin (t : Reading) (s : State) : Host.Outcome State Fault Refusal :=
  let s := s.startAt t
  if s.control.execution.isSome ∨ s.control.restartDue then s.done
  else
    match s.control.queue with
    | [] => s.done
    | frame :: _ => (s.turnTo frame).done

/-! ## Requests and their rows (R172, R173) -/

/-- The tables of R173. -/
inductive Table where
  | station
  | rules
  | classes
  | flows
  | probe
  | radio
  | tunnel
  | allowance
  | snapshot
  | counters
  deriving DecidableEq, Repr

/-- The table of a code (R173). -/
def Table.ofCode : Nat → Option Table
  | 1 => some .station
  | 2 => some .rules
  | 3 => some .classes
  | 4 => some .flows
  | 5 => some .probe
  | 6 => some .radio
  | 7 => some .tunnel
  | 8 => some .allowance
  | 9 => some .snapshot
  | 10 => some .counters
  | _ => none

/-- The last index of a table (R173). -/
def Table.lastIndex : Table → Nat
  | .station | .probe | .radio | .tunnel | .allowance | .snapshot => 0
  | .rules => 63
  | .classes => 7
  | .flows => 1023
  | .counters => lastCounter

/-- WRITE applies to a table (R173). -/
def Table.writable : Table → Bool
  | .station | .rules | .classes | .probe | .radio | .tunnel | .allowance => true
  | .flows | .snapshot | .counters => false

/-- What a request asks for, or that it is refused BAD_KIND or BAD_TABLE. -/
inductive Action where
  | discover
  | read (t : Table)
  | write (t : Table)
  | delete
  | flushFlows
  | hold
  | release
  | beginService
  | restart
  | newPeriod
  | setUsed
  | refused (status : Status)
  deriving DecidableEq, Repr

/-- The action of a READ, WRITE or DELETE on a table code, with a test whether the kind applies to the table named. -/
def tableAction (code : Nat) (applies : Table → Bool) (act : Table → Action) : Action :=
  match Table.ofCode code with
  | none => .refused .badTable
  | some t => if applies t then act t else .refused .badKind

/-- The action of a request in a frame that was or was not sent to broadcast (R170, R172, R173). -/
def Request.action (broadcast : Bool) (r : Request) : Action :=
  if r.kind = 1 then .discover
  else if broadcast then .refused .badKind
  else if r.kind = 2 then tableAction r.table (fun _ => true) .read
  else if r.kind = 3 then tableAction r.table Table.writable .write
  else if r.kind = 4 then tableAction r.table (fun t => decide (t = .flows)) (fun _ => .delete)
  else if r.kind = 5 then .flushFlows
  else if r.kind = 6 then .hold
  else if r.kind = 7 then .release
  else if r.kind = 8 then .beginService
  else if r.kind = 9 then .restart
  else if r.kind = 10 then .newPeriod
  else if r.kind = 11 then .setUsed
  else .refused .badKind

/-- The clear option of a request (R173). -/
def Request.clear (r : Request) : Bool := r.options.testBit 0

/-! ## Results (R172) -/

/-- The room left in the reply for data. -/
def Execution.room (x : Execution) : Nat :=
  x.largest - (2 + 6 * x.requests + (x.results.map (·.data.length)).sum)

/-- The status of a request that was not refused (R172, R173): a count of 0 takes 1 and answers CLAMPED. -/
def doneStatus (r : Request) (clamped cut : Bool) : Status :=
  if cut then .truncated else if clamped ∨ r.count = 0 then .clamped else .ok

/-- A status under which a request changes nothing (R172). -/
def Status.refusal : Status → Bool
  | .range | .badKind | .badTable | .notHeld | .busy => true
  | .ok | .clamped | .truncated => false

/-- The request at the head of the frame being executed is answered: its result joins the reply's results (R172,
R179). -/
def State.answer (s : State) (x : Execution) (r : Request) (status : Status) (count : Nat) (data : Bytes) : State :=
  let result : Result := { status := status, kind := r.kind, count := count, data := data }
  let s := { s with control := { s.control with
    execution := some { x with todo := x.todo.drop 1, results := x.results ++ [result] } } }
  if status.refusal then s.bump ctrRefused else s

/-- A request that returns no data and was not refused. -/
def State.answerDone (s : State) (x : Execution) (r : Request) (clamped : Bool) : State :=
  s.answer x r (doneStatus r clamped false) 0 []

/-- A refused request. -/
def State.answerRefused (s : State) (x : Execution) (r : Request) (status : Status) : State :=
  s.answer x r status 0 []

/-- The next request of the frame being executed is taken if it asks for `a`; any other command of this kind is no event
of the part (log 7). -/
def State.takeRequest (s : State) (a : Action) (body : Execution → Request → State → State) :
    Host.Outcome State Fault Refusal :=
  match s.control.execution with
  | none => s.done
  | some x =>
    match x.todo with
    | [] => s.done
    | r :: _ => if r.action x.broadcast = a then (body x r s).done else s.done

/-! ## READ (R173) -/

/-- As many whole entries as fit into the room, from the first. -/
def fitEntries : Nat → List Bytes → List Bytes
  | _, [] => []
  | room, e :: rest => if e.length ≤ room then e :: fitEntries (room - e.length) rest else []

/-- The indexes that a READ names: from index on, `count` of them (a count of 0 takes 1), as far as the table's last. -/
def Request.indexes (r : Request) (last : Nat) : List Nat :=
  List.range' r.index (min (max r.count 1) (last + 1 - r.index))

/-- A READ of a table whose entries are given by index. `clear` is what the clear option does to the entries that were
returned (R172, R173). -/
def State.readTable (s : State) (t : Table) (entry : Nat → Bytes) (clear : List Nat → State → State)
    (x : Execution) (r : Request) : State :=
  if t.lastIndex < r.index then s.answerRefused x r .range
  else
    let wanted := r.indexes t.lastIndex
    let placed := fitEntries x.room (wanted.map entry)
    let s' := if r.clear then clear (wanted.take placed.length) s else s
    s'.answer x r (doneStatus r false (decide (placed.length < wanted.length))) placed.length placed.flatten

/-- The clear option changes nothing in a table without counts. -/
def noClear (_ : List Nat) (s : State) : State := s

/-! ## The entries that READ returns (R16, R18, R39, R59, R95, R151, R162, R174, R175) -/

/-- The Station record in the order of R174. -/
def State.stationBytes (s : State) : Bytes :=
  beBytes 2 s.station.controlType ++ addrBytes s.station.address ++ addrBytes s.factory
    ++ addrBytes s.station.noticeAddress ++ beBytes 2 s.station.largestReply ++ beBytes 1 s.station.defaultClass.val
    ++ beBytes 1 s.station.managerCeiling ++ beBytes 1 s.station.reserveCeiling ++ beBytes 1 s.station.force.code
    ++ beBytes 1 s.station.holdTimeout ++ beBytes 2 s.station.reserveFloor ++ beBytes 2 s.station.fibreLimit
    ++ beBytes 2 s.station.downstreamLimit

/-- A rule in the order of R8. -/
def ruleBytes (r : Rule) : Bytes :=
  flagByte r.valid ++ optionalBytes 2 r.etherType ++ optionalBytes 1 r.protocol ++ rangeBytes 1 r.dscp
    ++ rangeBytes 2 r.sourcePort ++ rangeBytes 2 r.destPort ++ rangeBytes 1 r.vlan ++ beBytes 1 r.result.val
    ++ beBytes 4 r.matchCount

/-- The rule at an index. -/
def State.ruleEntry (s : State) (i : Nat) : Bytes :=
  match s.rules[i]? with
  | some r => ruleBytes r
  | none => []

/-- A Class Table entry in the order of R17. -/
def classBytes (e : ClassEntry) : Bytes :=
  beBytes 1 e.level ++ beBytes 1 e.weight ++ beBytes 1 e.burst ++ beBytes 2 e.queueLimit ++ beBytes 1 e.sojournLimit
    ++ beBytes 1 e.drainTime ++ beBytes 1 e.idleTimeout ++ beBytes 1 e.policy.code ++ flagByte e.exempt

/-- The class at an index. -/
def State.classTableEntry (s : State) (i : Nat) : Bytes :=
  match s.classes[i]? with
  | some e => classBytes e
  | none => []

/-- A flow entry in the order of R39: in-use mark, key kind, key image, class, uplink, state, last-seen, age, the three
counts, move target and drain deadline (log 16). -/
def State.flowBytes (s : State) (e : FlowEntry) : Bytes :=
  flagByte true ++ beBytes 1 (keyKind e.key).code ++ keyImageBytes e.key ++ beBytes 1 e.cls.val
    ++ beBytes 1 e.uplink.code ++ flagByte e.move.isSome ++ beBytes 4 e.lastSeen ++ beBytes 4 (s.age e)
    ++ beBytes 2 e.fibrePending ++ beBytes 2 e.radioPending ++ beBytes 1 e.held
    ++ optionalBytes 1 (e.move.map (·.target.code)) ++ optionalBytes 6 (e.move.map (·.deadline))

/-- The bytes of a flow entry in a READ: 68 of them. -/
def flowEntrySize : Nat := 68

/-- The way at an index; a free way has every field zero (R39). -/
def State.flowTableEntry (s : State) (i : Nat) : Bytes :=
  match s.entry i with
  | some e => s.flowBytes e
  | none => List.replicate flowEntrySize 0

/-- The Probe record in the order of R59. -/
def probeBytes (p : ProbeRecord) : Bytes :=
  addrBytes p.destination ++ beBytes 2 p.etherType ++ beBytes 16 p.token.toNat ++ beBytes 1 p.interval
    ++ beBytes 1 p.missLimit ++ beBytes 1 p.restoreCount ++ beBytes 1 p.baseHoldDown ++ beBytes 1 p.calmPeriod

/-- The Radio record in the order of R95. -/
def radioBytes (r : RadioRecord) : Bytes :=
  beBytes 1 r.linger ++ beBytes 1 r.reserveLinger ++ beBytes 1 r.openTimeout ++ beBytes 1 r.retryInterval
    ++ beBytes 1 r.riseShift ++ beBytes 1 r.fallShift ++ beBytes 1 r.headroom ++ beBytes 1 r.runLimit
    ++ flagByte r.preOpen

/-- The Tunnel record in the order of R151. -/
def tunnelBytes (t : TunnelRecord) : Bytes :=
  beBytes 1 t.templateLength ++ beBytes 64 t.template.toNat ++ optionalBytes 1 t.fixA ++ optionalBytes 1 t.fixB
    ++ optionalBytes 1 t.fixChecksum ++ beBytes 2 t.upstreamId ++ beBytes 2 t.downstreamId ++ beBytes 1 t.stripLength

/-- The Allowance record in the order of R173, then the thresholds and the exhausted mark (R162). -/
def allowanceBytes (a : Allowance) : Bytes :=
  beBytes 2 a.total ++ beBytes 5 a.used
    ++ (a.steps.toList.map fun st => beBytes 1 st.fraction ++ beBytes 1 st.ceiling).flatten
    ++ (a.steps.toList.map fun st => beBytes 5 (a.threshold st)).flatten ++ flagByte a.exhausted

/-- The clear option of a READ of rules sets the returned match counts to 0 (R16). -/
def clearMatchCounts (indexes : List Nat) (s : State) : State :=
  { s with rules := s.rules.mapIdx fun i r => if i ∈ indexes then { r with matchCount := 0 } else r }

/-- The clear option of a READ of the counters sets the returned counters to 0 (R175). -/
def clearCounters (indexes : List Nat) (s : State) : State :=
  indexes.foldl (fun s i => s.setCounter i 0) s

/-- The clear option of a READ of the status snapshot clears the link and control error summaries, if the entry was
returned (R96, R172, R175). -/
def clearSummaries (indexes : List Nat) (s : State) : State :=
  if indexes = [] then s
  else
    { s with
      link := { s.link with errors := LinkErrors.clear }
      control := { s.control with errors := ControlErrors.clear } }

/-! ## WRITE (R173) -/

/-- A WRITE of an entry: refused RANGE where the index is outside the table or the data too short; otherwise `write`
gives the state and whether a value was changed on its way in (R172, R173). -/
def State.writeTable (s : State) (t : Table) (sizes : List Nat) (write : List (Option Bytes) → State → State × Bool)
    (x : Execution) (r : Request) : State :=
  if t.lastIndex < r.index then s.answerRefused x r .range
  else
    match selectFields sizes 0 r.select r.data with
    | none => s.answerRefused x r .range
    | some fields => (write fields s).1.answerDone x r (write fields s).2

/-! ## The reply, the table hold and notices -/

/-- The result heads of a reply, then the data of each in request order (Formats on the wire). -/
def resultBytes (results : List Result) : Bytes :=
  (results.map fun r =>
      beBytes 1 r.status.code ++ beBytes 1 r.kind ++ beBytes 2 r.count ++ beBytes 2 r.data.length).flatten
    ++ (results.map (·.data)).flatten

/-- The reply frame (R172, Formats on the wire). -/
def State.replyFrame (s : State) (frame : Bytes) (x : Execution) : Bytes :=
  padTo Config.minFrame (slice 6 6 frame ++ addrBytes s.station.address ++ beBytes 2 s.station.controlType
    ++ beBytes 1 1 ++ beBytes 1 x.requests ++ resultBytes x.results)

/-- The reply is written: its unused cells return, it joins the priority FIFO, and the control frame's cells return as
it leaves the queue (R49, R172). -/
def State.writeReply (s : State) (frame : Bytes) (x : Execution) : State :=
  let reply := s.replyFrame frame x
  let s := s.returnCells (x.replyCells - cellsFor reply.length)
  let s := { s with
    egress := { s.egress with priority := s.egress.priority ++ [reply] }
    control := { s.control with
      queue := s.control.queue.drop 1, execution := none, restartDue := s.control.restartDue || x.restart }
    due := { s.due with premises := true } }
  (s.bump ctrFramesExecuted).returnCells (cellsFor frame.length)

/-- The reply of the frame being executed is written when its last request has been executed (R172). -/
def execReplyWrite (t : Reading) (s : State) : Host.Outcome State Fault Refusal :=
  let s := s.startAt t
  match s.control.execution, s.control.queue with
  | some x, frame :: _ => if x.todo = [] then (s.writeReply frame x).done else s.done
  | some _, [] => s.done
  | none, _ => s.done

/-- The hold lapses (R177). -/
def State.lapseHold (s : State) : State :=
  let s := { s with control := { s.control with
    hold := none, errors := { s.control.errors with holdLapsed := true } } }
  (s.bump ctrHoldLapses).raise .hold

/-- The hold timer expires and the table hold lapses (R177). -/
def execHoldTimerExpiry (t : Reading) (s : State) : Host.Outcome State Fault Refusal :=
  let s := s.startAt t
  match s.control.hold with
  | none => s.done
  | some r => (s.reach r).lapseHold.done

/-- A notice is written if its four conditions hold (R181). -/
def execNoticeWrite (t : Reading) (s : State) : Host.Outcome State Fault Refusal :=
  let s := s.startAt t
  State.done { s with due := { s.due with notice := true } }

/-- The 100 ms spacing since the last notice ends, and the notice test is made (R181). -/
def execNoticeSpacingEnd (t : Reading) (s : State) : Host.Outcome State Fault Refusal :=
  let s := s.startAt t
  match s.notices.last with
  | none => s.done
  | some r =>
    let s := s.reach (r + Config.noticeSpacing)
    State.done { s with due := { s.due with notice := true } }

end Sys2Proof.Machine
end

