-- ==== Sys2Proof/Machine/Requests.lean ====
section
/-! DEFINITION. The requests that the Control Unit executes: DISCOVER, the READs, the WRITEs with what each does to the
running blocks, DELETE, FLUSH_FLOWS, the table hold, BEGIN, RESTART and the allowance requests (chapter 11, and the rule
of the block that owns each table). -/

namespace Sys2Proof.Machine

/-! ## Kinds of fields in WRITE data -/

/-- An address field (R59, R174). -/
def writeAddr (old : Addr) (written : Option Bytes) : Addr :=
  match written with
  | none => old
  | some bs => addrField 0 bs

/-- The group bit of an address: the least significant bit of its first byte (R174). -/
def groupBit : Addr := 0x010000000000

/-- The station address: a group bit is cleared (R174). -/
def writeStationAddr (old : Addr) (written : Option Bytes) : Addr × Bool :=
  let a := writeAddr old written
  if written.isSome ∧ a &&& groupBit ≠ 0 then (a ^^^ groupBit, true) else (a, false)

/-- Force: a code above 2 takes FIBRE (R105). -/
def writeForce (old : Force) (written : Option Bytes) : Force × Bool :=
  match written with
  | none => (old, false)
  | some bs => (Force.ofCode (beNat bs), decide (2 < beNat bs))

/-- Policy: any code other than the three named takes FIBRE_ONLY (R18). -/
def writePolicy (old : Policy) (written : Option Bytes) : Policy × Bool :=
  match written with
  | none => (old, false)
  | some bs => (Policy.ofCode (beNat bs), decide (2 < beNat bs))

/-- Exempt: any nonzero code means yes (R18). -/
def writeExempt (old : Bool) (written : Option Bytes) : Bool :=
  match written with
  | none => old
  | some bs => decide (beNat bs ≠ 0)

/-- The template length: from 1 to 19 it takes 20, and above 64 it takes 64 (R151). -/
def writeTemplateLength (old : Nat) (written : Option Bytes) : Nat × Bool :=
  match written with
  | none => (old, false)
  | some bs => if beNat bs = 0 then (0, false) else (clampTo 20 64 (beNat bs), clampTo 20 64 (beNat bs) ≠ beNat bs)

/-! ## DISCOVER and the READs -/

/-- The eleven bytes that DISCOVER returns (R176). -/
def State.discoverBytes (s : State) : Bytes :=
  beBytes 2 Config.vendorCode ++ beBytes 2 Config.partCode ++ beBytes 1 Config.revision ++ addrBytes s.factory

/-- A request that returns one piece of data, placed if it fits into the room left (R172, R176). -/
def State.answerOne (s : State) (x : Execution) (r : Request) (data : Bytes) : State :=
  if data.length ≤ x.room then s.answer x r (doneStatus r false false) 1 data
  else s.answer x r (doneStatus r false true) 0 []

/-- DISCOVER (R176). -/
def execDiscover (t : Reading) (s : State) : Host.Outcome State Fault Refusal :=
  (s.startAt t).takeRequest .discover fun x r s => s.answerOne x r s.discoverBytes

/-- READ of the Station record (R173, R174). -/
def execReadStationRecord (t : Reading) (s : State) : Host.Outcome State Fault Refusal :=
  (s.startAt t).takeRequest (.read .station) fun x r s =>
    s.readTable .station (fun _ => s.stationBytes) noClear x r

/-- READ of the Class Rule Table (R16). -/
def execReadClassRuleTable (t : Reading) (s : State) : Host.Outcome State Fault Refusal :=
  (s.startAt t).takeRequest (.read .rules) fun x r s => s.readTable .rules s.ruleEntry clearMatchCounts x r

/-- READ of the Class Table (R18). -/
def execReadClassTable (t : Reading) (s : State) : Host.Outcome State Fault Refusal :=
  (s.startAt t).takeRequest (.read .classes) fun x r s => s.readTable .classes s.classTableEntry noClear x r

/-- READ of the Flow Table (R39). Every entry of one reply is read in one state, so that no frame is handled between the
readings of two entries (DESIGN CHOICE, log 25). -/
def execReadFlowTable (t : Reading) (s : State) : Host.Outcome State Fault Refusal :=
  (s.startAt t).takeRequest (.read .flows) fun x r s => s.readTable .flows s.flowTableEntry noClear x r

/-- READ of the Probe record (R59). -/
def execReadProbeRecord (t : Reading) (s : State) : Host.Outcome State Fault Refusal :=
  (s.startAt t).takeRequest (.read .probe) fun x r s =>
    s.readTable .probe (fun _ => probeBytes s.probe) noClear x r

/-- READ of the Radio record (R95). -/
def execReadRadioRecord (t : Reading) (s : State) : Host.Outcome State Fault Refusal :=
  (s.startAt t).takeRequest (.read .radio) fun x r s =>
    s.readTable .radio (fun _ => radioBytes s.radio) noClear x r

/-- READ of the Tunnel record (R151). -/
def execReadTunnelRecord (t : Reading) (s : State) : Host.Outcome State Fault Refusal :=
  (s.startAt t).takeRequest (.read .tunnel) fun x r s =>
    s.readTable .tunnel (fun _ => tunnelBytes s.tunnel) noClear x r

/-- READ of the Allowance record (R162). -/
def execReadAllowanceRecord (t : Reading) (s : State) : Host.Outcome State Fault Refusal :=
  (s.startAt t).takeRequest (.read .allowance) fun x r s =>
    s.readTable .allowance (fun _ => allowanceBytes s.allowance) noClear x r

/-- READ of the status snapshot (R175). -/
def execReadStatusSnapshot (t : Reading) (s : State) : Host.Outcome State Fault Refusal :=
  (s.startAt t).takeRequest (.read .snapshot) fun x r s =>
    s.readTable .snapshot (fun _ => s.snapshot) clearSummaries x r

/-- READ of the counters (R175). -/
def execReadCounters (t : Reading) (s : State) : Host.Outcome State Fault Refusal :=
  (s.startAt t).takeRequest (.read .counters) fun x r s =>
    s.readTable .counters (fun i => beBytes 4 (s.counter i)) clearCounters x r

/-! ## WRITE of the Station record (R174) -/

/-- The Station record with the selected fields written. -/
def writtenStation (fields : List (Option Bytes)) (r : Station) : Station :=
  let f := fieldAt fields
  { controlType := (writeNat r.controlType (f 0) 0x0600 0xFFFF).1
    address := (writeStationAddr r.address (f 1)).1
    noticeAddress := writeAddr r.noticeAddress (f 3)
    largestReply := (writeNat r.largestReply (f 4) 128 1500).1
    defaultClass := (writeClass r.defaultClass (f 5)).1
    managerCeiling := (writeNat r.managerCeiling (f 6) 0 7).1
    reserveCeiling := (writeNat r.reserveCeiling (f 7) 0 7).1
    force := (writeForce r.force (f 8)).1
    holdTimeout := (writeNat r.holdTimeout (f 9) 1 60).1
    reserveFloor := (writeNat r.reserveFloor (f 10) 0 512).1
    fibreLimit := (writeNat r.fibreLimit (f 11) 12 1024).1
    downstreamLimit := (writeNat r.downstreamLimit (f 12) 24 1024).1 }

/-- A field of a WRITE of the Station record was changed on its way in; the factory address is read-only. -/
def stationClamped (fields : List (Option Bytes)) (r : Station) : Bool :=
  let f := fieldAt fields
  (writeNat r.controlType (f 0) 0x0600 0xFFFF).2 || (writeStationAddr r.address (f 1)).2 || (f 2).isSome
    || (writeNat r.largestReply (f 4) 128 1500).2 || (writeClass r.defaultClass (f 5)).2
    || (writeNat r.managerCeiling (f 6) 0 7).2 || (writeNat r.reserveCeiling (f 7) 0 7).2
    || (writeForce r.force (f 8)).2 || (writeNat r.holdTimeout (f 9) 1 60).2
    || (writeNat r.reserveFloor (f 10) 0 512).2 || (writeNat r.fibreLimit (f 11) 12 1024).2
    || (writeNat r.downstreamLimit (f 12) 24 1024).2

/-- The Station record takes new values and its owners act: the POOL test (R54), the ceilings and admission (R107, R140),
the mode where force has changed (R105), the notice test where the notice address was written (R181). -/
def State.setStation (s : State) (fields : List (Option Bytes)) (r : Station) : State :=
  let s' := { s with
    station := r
    due := { s.due with
      mode := s.due.mode || decide (r.force ≠ s.station.force)
      notice := s.due.notice || (fieldAt fields 3).isSome } }
  (State.admissionChange s s').poolTest

/-- WRITE of the Station record (R173, R174). -/
def execWriteStationRecord (t : Reading) (s : State) : Host.Outcome State Fault Refusal :=
  (s.startAt t).takeRequest (.write .station) fun x r s =>
    s.writeTable .station stationSizes
      (fun fields s => (s.setStation fields (writtenStation fields s.station), stationClamped fields s.station)) x r

/-! ## WRITE of the Class Rule Table (R15) -/

/-- A rule with the selected fields written. -/
def writtenRule (fields : List (Option Bytes)) (r : Rule) : Rule :=
  let f := fieldAt fields
  { valid := (writeFlag r.valid (f 0)).1
    etherType := (writeOptional r.etherType (f 1) (boundedNat 0x0600 0xFFFF)).1
    protocol := (writeOptional r.protocol (f 2) (boundedNat 0 255)).1
    dscp := (writeOptional r.dscp (f 3) (boundedRange 1 63)).1
    sourcePort := (writeOptional r.sourcePort (f 4) (boundedRange 2 65535)).1
    destPort := (writeOptional r.destPort (f 5) (boundedRange 2 65535)).1
    vlan := (writeOptional r.vlan (f 6) (boundedRange 1 7)).1
    result := (writeClass r.result (f 7)).1
    matchCount := r.matchCount }

/-- A field of a WRITE of a rule was changed on its way in; the match count is read-only. -/
def ruleClamped (fields : List (Option Bytes)) (r : Rule) : Bool :=
  let f := fieldAt fields
  (writeFlag r.valid (f 0)).2 || (writeOptional r.etherType (f 1) (boundedNat 0x0600 0xFFFF)).2
    || (writeOptional r.protocol (f 2) (boundedNat 0 255)).2 || (writeOptional r.dscp (f 3) (boundedRange 1 63)).2
    || (writeOptional r.sourcePort (f 4) (boundedRange 2 65535)).2
    || (writeOptional r.destPort (f 5) (boundedRange 2 65535)).2 || (writeOptional r.vlan (f 6) (boundedRange 1 7)).2
    || (writeClass r.result (f 7)).2 || (f 8).isSome

/-- The rule at an index is written. -/
def State.writeRule (s : State) (i : Nat) (fields : List (Option Bytes)) : State × Bool :=
  if h : i < 64 then
    ({ s with rules := s.rules.set i (writtenRule fields s.rules[i]) h }, ruleClamped fields s.rules[i])
  else (s, false)

/-- WRITE of a rule under the table hold (R15): NOT_HELD stands before RANGE. -/
def execWriteClassRuleTable (t : Reading) (s : State) : Host.Outcome State Fault Refusal :=
  (s.startAt t).takeRequest (.write .rules) fun x r s =>
    if s.control.hold.isNone then s.answerRefused x r .notHeld
    else s.writeTable .rules ruleSizes (fun fields s => s.writeRule r.index fields) x r

/-! ## WRITE of the Class Table (R18) -/

/-- A Class Table entry with the selected fields written. -/
def writtenClass (fields : List (Option Bytes)) (e : ClassEntry) : ClassEntry :=
  let f := fieldAt fields
  { level := (writeNat e.level (f 0) 0 7).1
    weight := (writeNat e.weight (f 1) 1 64).1
    burst := (writeNat e.burst (f 2) 1 255).1
    queueLimit := (writeNat e.queueLimit (f 3) 12 1024).1
    sojournLimit := (writeNat e.sojournLimit (f 4) 0 255).1
    drainTime := (writeNat e.drainTime (f 5) 0 255).1
    idleTimeout := (writeNat e.idleTimeout (f 6) 0 255).1
    policy := (writePolicy e.policy (f 7)).1
    exempt := writeExempt e.exempt (f 8) }

/-- A field of a WRITE of a Class Table entry was changed on its way in. -/
def classClamped (fields : List (Option Bytes)) (e : ClassEntry) : Bool :=
  let f := fieldAt fields
  (writeNat e.level (f 0) 0 7).2 || (writeNat e.weight (f 1) 1 64).2 || (writeNat e.burst (f 2) 1 255).2
    || (writeNat e.queueLimit (f 3) 12 1024).2 || (writeNat e.sojournLimit (f 4) 0 255).2
    || (writeNat e.drainTime (f 5) 0 255).2 || (writeNat e.idleTimeout (f 6) 0 255).2 || (writePolicy e.policy (f 7)).2

/-- A class takes a new entry: a credit above a new cap takes the cap, admission is recomputed, and a write of the level
owes a selection (R18, R139, R141, R143). -/
def State.setClassEntry (s : State) (c : TrafficClass) (fields : List (Option Bytes)) (e : ClassEntry) : State :=
  let s' := { s with
    classes := s.classes.set c.val e c.isLt
    due := { s.due with select := s.due.select || (fieldAt fields 0).isSome } }
  let s' := if (fieldAt fields 2).isSome then s'.setCredit c (min (s'.credit c) (s'.creditCap c)) else s'
  State.admissionChange s s'

/-- The class at an index is written. -/
def State.writeClassAt (s : State) (i : Nat) (fields : List (Option Bytes)) : State × Bool :=
  if h : i < 8 then
    (s.setClassEntry ⟨i, h⟩ fields (writtenClass fields s.classes[i]), classClamped fields s.classes[i])
  else (s, false)

/-- WRITE of a Class Table entry (R18). -/
def execWriteClassTable (t : Reading) (s : State) : Host.Outcome State Fault Refusal :=
  (s.startAt t).takeRequest (.write .classes) fun x r s =>
    s.writeTable .classes classSizes (fun fields s => s.writeClassAt r.index fields) x r

/-! ## WRITE of the Probe record (R74) -/

/-- The Probe record with the selected fields written. -/
def writtenProbe (fields : List (Option Bytes)) (p : ProbeRecord) : ProbeRecord :=
  let f := fieldAt fields
  { destination := writeAddr p.destination (f 0)
    etherType := (writeNat p.etherType (f 1) 0x0600 0xFFFF).1
    token := match f 2 with
      | none => p.token
      | some bs => BitVec.ofNat 128 (beNat bs)
    interval := (writeNat p.interval (f 3) 1 100).1
    missLimit := (writeNat p.missLimit (f 4) 1 15).1
    restoreCount := (writeNat p.restoreCount (f 5) 1 15).1
    baseHoldDown := (writeNat p.baseHoldDown (f 6) 1 255).1
    calmPeriod := (writeNat p.calmPeriod (f 7) 1 255).1 }

/-- A field of a WRITE of the Probe record was changed on its way in. -/
def probeClamped (fields : List (Option Bytes)) (p : ProbeRecord) : Bool :=
  let f := fieldAt fields
  (writeNat p.etherType (f 1) 0x0600 0xFFFF).2 || (writeNat p.interval (f 3) 1 100).2
    || (writeNat p.missLimit (f 4) 1 15).2 || (writeNat p.restoreCount (f 5) 1 15).2
    || (writeNat p.baseHoldDown (f 6) 1 255).2 || (writeNat p.calmPeriod (f 7) 1 255).2

/-- Probing is switched off with light present (R71). -/
def State.probingOff (s : State) : State :=
  let s := s.stopProbing
  match s.monitor.state with
  | .up => s
  | .suspect => State.setFibreState { s with monitor := { s.monitor with misses := 0 } } .up
  | .down => (State.setFibreState { s with monitor := { s.monitor with hits := 1 } } .recovering).tryRestore
  | .recovering => s.tryRestore

/-- A write of the calm period applies at once to the running period (R74). -/
def State.calmTest (s : State) : State :=
  match s.monitor.calmStart with
  | none => s
  | some c => if c + s.probe.calmPeriod * 60000 ≤ s.now then s.lowerFlaps s.now else s

/-- What a change of the probe destination between zero and nonzero does with light present (R71, R74). -/
def State.destinationChange (before s : State) : State :=
  if s.lightLost then s
  else if before.probe.destination = 0 ∧ s.probe.destination ≠ 0 then s.probeInstantAt s.now
  else if before.probe.destination ≠ 0 ∧ s.probe.destination = 0 then s.probingOff
  else s

/-- The Probe record takes new values and the running monitor meets them (R74). -/
def State.setProbe (s : State) (fields : List (Option Bytes)) (p : ProbeRecord) : State :=
  let s' := State.destinationChange s { s with probe := p }
  let s' := if (fieldAt fields 5).isSome then s'.tryRestore else s'
  if (fieldAt fields 7).isSome then s'.calmTest else s'

/-- WRITE of the Probe record (R59, R74). -/
def execWriteProbeRecord (t : Reading) (s : State) : Host.Outcome State Fault Refusal :=
  (s.startAt t).takeRequest (.write .probe) fun x r s =>
    s.writeTable .probe probeSizes
      (fun fields s => (s.setProbe fields (writtenProbe fields s.probe), probeClamped fields s.probe)) x r

/-! ## WRITE of the Radio record (R95) -/

/-- The Radio record with the selected fields written. -/
def writtenRadio (fields : List (Option Bytes)) (r : RadioRecord) : RadioRecord :=
  let f := fieldAt fields
  { linger := (writeNat r.linger (f 0) 0 60).1
    reserveLinger := (writeNat r.reserveLinger (f 1) 0 60).1
    openTimeout := (writeNat r.openTimeout (f 2) 1 30).1
    retryInterval := (writeNat r.retryInterval (f 3) 1 60).1
    riseShift := (writeNat r.riseShift (f 4) 0 7).1
    fallShift := (writeNat r.fallShift (f 5) 0 7).1
    headroom := (writeNat r.headroom (f 6) 8 16).1
    runLimit := (writeNat r.runLimit (f 7) 1 64).1
    preOpen := (writeFlag r.preOpen (f 8)).1 }

/-- A field of a WRITE of the Radio record was changed on its way in. -/
def radioClamped (fields : List (Option Bytes)) (r : RadioRecord) : Bool :=
  let f := fieldAt fields
  (writeNat r.linger (f 0) 0 60).2 || (writeNat r.reserveLinger (f 1) 0 60).2 || (writeNat r.openTimeout (f 2) 1 30).2
    || (writeNat r.retryInterval (f 3) 1 60).2 || (writeNat r.riseShift (f 4) 0 7).2
    || (writeNat r.fallShift (f 5) 0 7).2 || (writeNat r.headroom (f 6) 8 16).2 || (writeNat r.runLimit (f 7) 1 64).2
    || (writeFlag r.preOpen (f 8)).2

/-- The Radio record takes new values: a write of the run limit owes a selection (R143), and a write of pre-open is an
event of open demand (R89, R95). -/
def State.setRadio (s : State) (fields : List (Option Bytes)) (r : RadioRecord) : State :=
  let s := { s with radio := r, due := { s.due with select := s.due.select || (fieldAt fields 7).isSome } }
  if (fieldAt fields 8).isSome then s.tryOpen else s

/-- WRITE of the Radio record (R95). -/
def execWriteRadioRecord (t : Reading) (s : State) : Host.Outcome State Fault Refusal :=
  (s.startAt t).takeRequest (.write .radio) fun x r s =>
    s.writeTable .radio radioSizes
      (fun fields s => (s.setRadio fields (writtenRadio fields s.radio), radioClamped fields s.radio)) x r

/-! ## WRITE of the Tunnel record (R151, R152) -/

/-- A fix-up that does not lie inside the template is made absent (R151). -/
def keptFix (templateLength : Nat) (fix : Option Nat) : Option Nat := fix.filter (· + 2 ≤ templateLength)

/-- The Tunnel record with the selected fields written, before the fix-up test. -/
def writtenTunnel (fields : List (Option Bytes)) (t : TunnelRecord) : TunnelRecord :=
  let f := fieldAt fields
  { templateLength := (writeTemplateLength t.templateLength (f 0)).1
    template := match f 1 with
      | none => t.template
      | some bs => BitVec.ofNat 512 (beNat bs)
    fixA := (writeOptional t.fixA (f 2) (boundedNat 0 62)).1
    fixB := (writeOptional t.fixB (f 3) (boundedNat 0 62)).1
    fixChecksum := (writeOptional t.fixChecksum (f 4) (boundedNat 0 62)).1
    upstreamId := (writeNat t.upstreamId (f 5) 0 65535).1
    downstreamId := (writeNat t.downstreamId (f 6) 0 65535).1
    stripLength := (writeNat t.stripLength (f 7) 0 64).1 }

/-- The fix-up test on the three fix-ups (R151). -/
def TunnelRecord.tested (t : TunnelRecord) : TunnelRecord :=
  { t with
    fixA := keptFix t.templateLength t.fixA
    fixB := keptFix t.templateLength t.fixB
    fixChecksum := keptFix t.templateLength t.fixChecksum }

/-- A field of a WRITE of the Tunnel record was changed on its way in, or a fix-up failed its test (R151). -/
def tunnelClamped (fields : List (Option Bytes)) (t : TunnelRecord) : Bool :=
  let f := fieldAt fields
  (writeTemplateLength t.templateLength (f 0)).2 || (writeOptional t.fixA (f 2) (boundedNat 0 62)).2
    || (writeOptional t.fixB (f 3) (boundedNat 0 62)).2 || (writeOptional t.fixChecksum (f 4) (boundedNat 0 62)).2
    || (writeNat t.stripLength (f 7) 0 64).2
    || decide ((writtenTunnel fields t).tested ≠ writtenTunnel fields t)

/-- The Tunnel record takes new values: admission is recomputed, and a written template length may let a staged frame
begin (R141, R152). -/
def State.setTunnel (s : State) (fields : List (Option Bytes)) (t : TunnelRecord) : State :=
  State.admissionChange s
    { s with tunnel := t, due := { s.due with transfer := s.due.transfer || (fieldAt fields 0).isSome } }

/-- WRITE of the Tunnel record (R151, R152). -/
def execWriteTunnelRecord (t : Reading) (s : State) : Host.Outcome State Fault Refusal :=
  (s.startAt t).takeRequest (.write .tunnel) fun x r s =>
    s.writeTable .tunnel tunnelSizes
      (fun fields s => (s.setTunnel fields (writtenTunnel fields s.tunnel).tested, tunnelClamped fields s.tunnel)) x r

/-! ## WRITE of the Allowance record (R162) -/

/-- Step `i` with its fraction and ceiling written; the fields of step `i` stand from 2 + 2 i (R173). -/
def writtenStep (fields : List (Option Bytes)) (i : Nat) (st : AllowanceStep) : AllowanceStep :=
  { fraction := (writeNat st.fraction (fieldAt fields (2 + 2 * i)) 1 16).1
    ceiling := (writeNat st.ceiling (fieldAt fields (3 + 2 * i)) 0 7).1 }

/-- A field of step `i` was changed on its way in. -/
def stepClamped (fields : List (Option Bytes)) (i : Nat) : Bool :=
  (writeNat 0 (fieldAt fields (2 + 2 * i)) 1 16).2 || (writeNat 0 (fieldAt fields (3 + 2 * i)) 0 7).2

/-- The Allowance record with the selected fields written; used keeps its value (R162). -/
def writtenAllowance (fields : List (Option Bytes)) (a : Allowance) : Allowance :=
  { a with
    total := (writeNat a.total (fieldAt fields 0) 0 65535).1
    steps := a.steps.mapIdx fun i st => writtenStep fields i st }

/-- A field of a WRITE of the Allowance record was changed on its way in; used is read-only. -/
def allowanceClamped (fields : List (Option Bytes)) : Bool :=
  (fieldAt fields 1).isSome || stepClamped fields 0 || stepClamped fields 1 || stepClamped fields 2
    || stepClamped fields 3

/-- WRITE of the Allowance record, and the re-evaluation that follows (R162, R166). -/
def execWriteAllowanceRecord (t : Reading) (s : State) : Host.Outcome State Fault Refusal :=
  (s.startAt t).takeRequest (.write .allowance) fun x r s =>
    s.writeTable .allowance allowanceSizes
      (fun fields s =>
        (State.evaluateAllowance { s with allowance := writtenAllowance fields s.allowance },
          allowanceClamped fields)) x r

/-! ## DELETE and FLUSH_FLOWS (R37, R38) -/

/-- DELETE of the entry at an index (R37). -/
def execDeleteFlow (t : Reading) (s : State) : Host.Outcome State Fault Refusal :=
  (s.startAt t).takeRequest .delete fun x r s =>
    if Table.flows.lastIndex < r.index then s.answerRefused x r .range
    else
      match s.entry r.index with
      | none => s.answerDone x r false
      | some e => if e.idle then (s.removeEntry r.index).answerDone x r false else s.answerRefused x r .busy

/-- Every idle ACTIVE entry is removed (R38). -/
def State.flushTable (s : State) : State := { s with flows := s.flows.filter fun p => !p.2.idle }

/-- FLUSH_FLOWS (R38, R176). -/
def execFlushFlows (t : Reading) (s : State) : Host.Outcome State Fault Refusal :=
  (s.startAt t).takeRequest .flushFlows fun x r s =>
    let s := s.flushTable
    s.answerOne x r (beBytes 2 s.flows.length)

/-! ## The table hold (R177) -/

/-- HOLD takes the table hold, or restarts its timer (R177). -/
def execHold (t : Reading) (s : State) : Host.Outcome State Fault Refusal :=
  (s.startAt t).takeRequest .hold fun x r s =>
    State.answerDone { s with control := { s.control with hold := some (s.now + s.station.holdTimeout * 1000) } } x r
      false

/-- RELEASE makes the table hold free (R177). -/
def execRelease (t : Reading) (s : State) : Host.Outcome State Fault Refusal :=
  (s.startAt t).takeRequest .release fun x r s =>
    State.answerDone { s with control := { s.control with hold := none } } x r false

/-! ## BEGIN, RESTART and the allowance requests (R103, R168, R178) -/

/-- Service begins (R89, R103, R104). -/
def State.begin (s : State) : State :=
  if s.steering.begun then s
  else State.tryOpen { s with steering := { s.steering with begun := true }, due := { s.due with mode := true } }

/-- BEGIN (R103). -/
def execBeginService (t : Reading) (s : State) : Host.Outcome State Fault Refusal :=
  (s.startAt t).takeRequest .beginService fun x r s => s.begin.answerDone x r false

/-- RESTART is answered, and acts once the frame's reply has been written (R178). -/
def execRestart (t : Reading) (s : State) : Host.Outcome State Fault Refusal :=
  (s.startAt t).takeRequest .restart fun x r s => s.answerDone { x with restart := true } r false

/-- Used takes a value, and the allowance ceiling is re-evaluated (R168). -/
def State.putUsed (s : State) (v : Nat) : State :=
  State.evaluateAllowance { s with allowance := { s.allowance with used := v } }

/-- NEW_PERIOD (R168). -/
def execNewPeriod (t : Reading) (s : State) : Host.Outcome State Fault Refusal :=
  (s.startAt t).takeRequest .newPeriod fun x r s => (s.putUsed 0).answerDone x r false

/-- SET_USED (R168, R176). Of more than five data bytes the first five are taken (log 31). -/
def execSetUsed (t : Reading) (s : State) : Host.Outcome State Fault Refusal :=
  (s.startAt t).takeRequest .setUsed fun x r s =>
    if r.data.length < 5 then s.answerRefused x r .range
    else
      let v := field 0 5 r.data
      (s.putUsed (min v Config.usedTop)).answerDone x r (decide (Config.usedTop < v))

/-! ## Requests refused for their kind or table (R172) -/

/-- The next request of the frame being executed is refused BAD_KIND or BAD_TABLE if either applies; a request of
another command is not this one's (log 7). -/
def execBadKindRequest (t : Reading) (s : State) : Host.Outcome State Fault Refusal :=
  let s := s.startAt t
  match s.control.execution with
  | none => s.done
  | some x =>
    match x.todo with
    | [] => s.done
    | r :: _ =>
      match r.action x.broadcast with
      | .refused status => (s.answerRefused x r status).done
      | .discover | .read _ | .write _ | .delete | .flushFlows | .hold | .release | .beginService | .restart
      | .newPeriod | .setUsed => s.done

end Sys2Proof.Machine
end

