-- ==== Sys2Proof/Machine/Reserve.lean ====
section
/-! DEFINITION. The ON_RESERVE line (R91, R106, R140). -/

namespace Sys2Proof.Machine

/-- A running linger timer is cut to the reserve linger (R91). -/
def State.capLinger (s : State) : State :=
  if s.bearer.state = .linger then
    { s with bearer := { s.bearer with
      lingerTimer := s.bearer.lingerTimer.map (min · (s.now + s.radio.reserveLinger * 1000)) } }
  else s

/-- The reserve flag takes the level of the line, and the change is handed on (R106). -/
def State.setReserve (s : State) (level : Bool) : State :=
  State.raise
    (State.admissionChange s
      { s with steering := { s.steering with reserve := level }, due := { s.due with mode := true } })
    .reserve

/-- ON_RESERVE becomes active (R106). With the flag already set the line has not changed. -/
def execOnReserveActive (t : Reading) (s : State) : Host.Outcome State Fault Refusal :=
  let s := s.startAt t
  if s.steering.reserve then s.done else (s.setReserve true).capLinger.done

/-- ON_RESERVE becomes inactive (R106). With the flag already clear the line has not changed. -/
def execOnReserveInactive (t : Reading) (s : State) : Host.Outcome State Fault Refusal :=
  let s := s.startAt t
  if s.steering.reserve then (s.setReserve false).done else s.done

end Sys2Proof.Machine
end

