-- ==== Sys2Proof/Machine/Modem.lean ====
section
/-! DEFINITION. The Modem Link Unit and the Radio Bearer Controller: records from the modem, link sync, transfers, the
radio state machine and its timers (chapter 5), and the delivery of downstream frames (R159). -/

namespace Sys2Proof.Machine

/-! ## The radio state machine (R87 to R93) -/

/-- Entry into SEARCHING from an attached state, on a DETACHED (R88). -/
def State.detach (s : State) : State :=
  let s := { s with
    bearer := { s.bearer with openTimer := none, lingerTimer := none, closingTimer := none, retryTimer := none }
    sender := { s.sender with bearerSlot := none } }
  (s.unstage.clearRadioSide).setRadioState .searching

/-- The attach field of a taken STATUS acts (R88). -/
def State.actAttach (s : State) (attached : Bool) : State :=
  match s.bearer.state, attached with
  | .absent, true => s.enterReady
  | .absent, false => s.setRadioState .searching
  | .searching, true => s.enterReady
  | .searching, false => s
  | .ready, true | .opening, true | .opened, true | .linger, true | .closing, true => s
  | .ready, false | .opening, false | .opened, false | .linger, false | .closing, false => s.detach

/-- The bearer failed to open or was refused: READY with the retry timer running (R90). -/
def State.openFailed (s : State) : State :=
  let s := { s with bearer := { s.bearer with
    openTimer := none, retryTimer := some (s.now + s.radio.retryInterval * 1000) } }
  (s.bump ctrOpenFailures).enterReady

/-- A bearer drop (R93). -/
def State.bearerDrop (s : State) : State :=
  let s := { s with bearer := { s.bearer with
    lingerTimer := none, retryTimer := some (s.now + s.radio.retryInterval * 1000) } }
  (s.unstage.bump ctrBearerDrops).enterReady

/-- The bearer is open: OPENING becomes OPEN, and a selection is owed (R90, R143). -/
def State.bearerOpened (s : State) : State :=
  let s := { s with
    bearer := { s.bearer with openTimer := none }, due := { s.due with select := true } }
  s.setRadioState .opened

/-- CLOSING ends in READY, where R89 applies at once (R92). -/
def State.closeEnded (s : State) : State :=
  State.enterReady { s with bearer := { s.bearer with closingTimer := none } }

/-- The bearer field of a taken STATUS acts in the state that the attach field has left: 0 CLOSED, 1 OPEN, 2 REFUSED
(R88 to R93). -/
def State.actBearer (s : State) (code : Nat) : State :=
  match s.bearer.state with
  | .absent | .searching => s
  | .ready => if code = 1 then s.requestBearer .bearerClose else s
  | .opening => if code = 1 then s.bearerOpened else if code = 2 then s.openFailed else s
  | .opened | .linger => if code = 1 then s else s.bearerDrop
  | .closing => if code = 1 then s else s.closeEnded

/-- A run complete takes OPEN to LINGER (R86, R90). In any other state it changes nothing (R88). -/
def State.runComplete (s : State) : State :=
  if s.bearer.state = .opened then
    let time := if s.steering.reserve then s.radio.reserveLinger else s.radio.linger
    State.setRadioState
      { s with bearer := { s.bearer with lingerTimer := some (s.now + time * 1000) } } .linger
  else s

/-! ## Link sync (R83, R84) -/

/-- A good record is counted, and with the link up restarts the silence timer (R81, R83). -/
def State.goodRecord (s : State) : State :=
  let s := s.bump ctrRecordsReceived
  if s.link.up then { s with link := { s.link with silence := some (s.now + Config.silenceTime) } } else s

/-- A good STATUS takes the link up (R83). -/
def State.linkUp (s : State) : State :=
  if s.link.up then s
  else { s with
    link := { s.link with up := true, silence := some (s.now + Config.silenceTime) }
    due := { s.due with transfer := true } }

/-- A staged or in-transfer frame is lost with the link (R84). -/
def State.loseFrame (s : State) (f : UpFrame) : State :=
  ((s.returnCells f.cells).bump ctrLinkLostFrames).frameGone .radio f

/-- The staged record is discarded by link loss (R84). -/
def State.loseStaged (s : State) : State :=
  match s.sender.staged with
  | none => s
  | some f => State.loseFrame { s with sender := { s.sender with staged := none } } f

/-- The record in transfer is discarded by link loss (R84). -/
def State.loseTransfer (s : State) : State :=
  match s.sender.transfer with
  | none => s
  | some (.bearer _ _) => { s with sender := { s.sender with transfer := none } }
  | some (.data f _ _) => State.loseFrame { s with sender := { s.sender with transfer := none } } f

/-- The modem receive assembly is emptied and its cells return (R84). A record whose payload had begun is not skipped: it
takes no further cell and is judged at its end, since a STATUS that meets the expiry takes the link up again and a good
record of another kind is counted (R83, log 30). -/
def State.emptyModemAssembly (s : State) : State :=
  let a := s.link.assembly
  State.returnCells
    { s with link := { s.link with assembly :=
      { a with cells := 0, released := a.released || decide (0 < a.cells) } } } a.cells

/-- The link goes down by the silence timer (R84). -/
def State.linkLoss (s : State) : State :=
  let s := { s with
    link := { s.link with up := false, silence := none }
    sender := { s.sender with bearerSlot := none }
    bearer := { s.bearer with openTimer := none, lingerTimer := none, closingTimer := none, retryTimer := none } }
  let s := s.loseTransfer.loseStaged.emptyModemAssembly.clearRadioSide
  ((s.linkError .lost).bump ctrLinkLosses).setRadioState .absent

/-! ## Records from the modem (R52, R79 to R82) -/

/-- The counts and the flag of a header correction, once for each record (R79, R96). -/
def State.noteCorrection (s : State) (corrected : Bool) : State :=
  if corrected && !s.link.assembly.headCounted then (s.bump ctrHeadersCorrected).linkError .corrected else s

/-- The arriving record has ended: the receiver is at a delimiter and the assembly holds nothing. -/
def State.clearAssembly (s : State) : State := { s with link := { s.link with assembly := ModemAssembly.empty } }

/-- One more cell is taken for the record now arriving, or the record is discarded for want of one (R52). -/
def State.modemTake (s : State) : State :=
  let a := s.link.assembly
  if s.pool.free = 0 then
    let s := { s with link := { s.link with assembly := { cells := 0, headCounted := false, skipping := true } } }
    (s.bump ctrModemShortage).returnCells a.cells
  else State.takeCells { s with link := { s.link with assembly := { a with cells := a.cells + 1 } } } 1

/-- The cells that a record still lacks when it ends are taken one by one, until the record is discarded (log 5). -/
def State.modemFill : Nat → State → State
  | 0, s => s
  | n + 1, s => if s.link.assembly.skipping then s else State.modemFill n s.modemTake

/-- A record has been received as far as its payload: the correction is counted and the cells of its payload are in the
assembly, unless the record was discarded on the way. One that gave its cells back at link loss takes none (log 30). -/
def State.receivePayload (s : State) (corrected : Bool) (length : Nat) : State :=
  let s := s.noteCorrection corrected
  if s.link.assembly.released then s else State.modemFill (cellsFor length - s.link.assembly.cells) s

/-- The cells of the record in the assembly return, and the assembly is empty: a record that was discarded, or a STATUS
or GRANT that has been taken (R52). -/
def State.dropRecord (s : State) : State := s.clearAssembly.returnCells s.link.assembly.cells

/-- A STATUS or GRANT that fails its contents test is discarded (R82). -/
def State.rangeFailure (s : State) : State := (s.dropRecord.bump ctrRangeErrors).linkError .range

/-- The contents test of a STATUS record (R82). -/
def statusContents (p : Bytes) : Bool :=
  decide (p.length = 3) && decide (field 0 1 p ≤ 1) && decide (field 1 1 p ≤ 2) && decide (field 2 1 p ≤ 63)

/-- The contents test of a GRANT record (R82). -/
def grantContents (p : Bytes) : Bool :=
  decide (p.length = 4) && decide (1 ≤ field 2 2 p) && decide (field 2 2 p ≤ 100)

/-- A STATUS record that has passed every step of R81 is taken (R82, R83, R88). -/
def State.takeStatus (s : State) (p : Bytes) : State :=
  let s := s.goodRecord.linkUp
  ({ s with lastSignal := field 2 1 p }.actAttach (decide (field 0 1 p = 1))).actBearer (field 1 1 p)

/-- A GRANT record that has passed every step of R81 is taken if the link is up, and accepted in OPEN or LINGER (R81,
R82). -/
def State.takeGrant (s : State) (p : Bytes) : State :=
  let s := s.goodRecord
  if !s.link.up then s
  else if s.bearer.state.carrying then s.acceptGrant (field 0 2 p) (field 2 2 p)
  else s.bump ctrStrayGrants

/-- A frame unwrapped from a record is delivered by the service mode (R52, R101, R102, R159). The cells of its record
beyond the frame's own have returned before. -/
def State.deliver (s : State) (data : Bytes) : State :=
  let k := cellsFor data.length
  match s.service.mode with
  | .pass => (s.bump ctrPassRadio).returnCells k
  | .hold => (s.bump ctrHoldDownstream).returnCells k
  | .normal | .fallback | .isolated =>
    if byteCells s.downstream.fibre + byteCells s.downstream.radio + s.fibreAssembly.cells + k ≤
        s.station.downstreamLimit then
      State.bump
        { s with
          downstream := { s.downstream with radio := s.downstream.radio ++ [data] }
          due := { s.due with premises := true } } ctrFramesDelivered
    else (s.bump ctrRadioRefused).returnCells k

/-- A DATA record that has passed every step of R81 is taken if the link is up: metered, tested, checked for its
sequence and delivered (R81, R157 to R159, R164). -/
def State.takeData (s : State) (p : Bytes) : State :=
  let held := s.link.assembly.cells
  let s := s.clearAssembly.goodRecord
  if !s.link.up then s.returnCells held
  else
    let s := s.endLinger.meter p.length ctrDownstreamMetered
    match judgeCarrier s.tunnel p with
    | .discard i => (s.bump i).returnCells held
    | .frame n data => ((s.checkSequence n).returnCells (held - cellsFor data.length)).deliver data

/-! ## The commands: records -/

/-- Cell 0 marks the beginning of a record: nothing of the record before it is skipped or remembered (log 5). -/
def ModemAssembly.beginning (a : ModemAssembly) : ModemAssembly :=
  { a with headCounted := a.headCounted && !a.released, skipping := false, released := false }

/-- The cell numbered `n` of the payload of a record with the four header bytes `head` is needed (R52). A record whose
header fails or gives too long a payload takes none; a cell of a record being skipped, of one that gave its cells back
at link loss (log 30), or out of turn, is no event of the part (log 6). -/
def execModemCellTake (t : Reading) (head : Bytes) (n : Nat) (s : State) : Host.Outcome State Fault Refusal :=
  let s := s.startAt t
  let s := if n = 0 then { s with link := { s.link with assembly := s.link.assembly.beginning } } else s
  if s.link.assembly.skipping ∨ s.link.assembly.released ∨ s.link.assembly.cells ≠ n then s.done
  else
    match decodeHeader (BitVec.ofNat 24 (field 0 3 head)) (field 3 1 head) with
    | .error => s.done
    | .good h => if Config.maxRecordPayload < h.toNat % 65536 then s.done else s.modemTake.done
    | .corrected h =>
      if Config.maxRecordPayload < h.toNat % 65536 then s.done
      else
        let s := s.noteCorrection true
        let s := { s with link := { s.link with assembly := { s.link.assembly with headCounted := true } } }
        s.modemTake.done

/-- A record has ended: one being skipped is done with, and any other is judged by its bytes, `body` saying what this
command does with it (log 6). -/
def State.endRecord (s : State) (body : State → State) : Host.Outcome State Fault Refusal :=
  if s.link.assembly.skipping then s.clearAssembly.done else (body s).done

/-- A STATUS record ends (R81, R82, R88). -/
def execStatusRecord (t : Reading) (bytes : Bytes) (s : State) : Host.Outcome State Fault Refusal :=
  let s := s.startAt t
  match judgeRecord bytes with
  | .status corrected p =>
    s.endRecord fun s =>
      let s := s.receivePayload corrected p.length
      if s.link.assembly.skipping then s.clearAssembly
      else if statusContents p then s.dropRecord.takeStatus p else s.rangeFailure
  | .nothing | .headerError | .overLength _ | .payloadError _ | .unknownKind _ _ | .grant _ _ | .data _ _ => s.done

/-- A GRANT record ends (R81, R82, R133 to R135). -/
def execGrantRecord (t : Reading) (bytes : Bytes) (s : State) : Host.Outcome State Fault Refusal :=
  let s := s.startAt t
  match judgeRecord bytes with
  | .grant corrected p =>
    s.endRecord fun s =>
      let s := s.receivePayload corrected p.length
      if s.link.assembly.skipping then s.clearAssembly
      else if grantContents p then s.dropRecord.takeGrant p else s.rangeFailure
  | .nothing | .headerError | .overLength _ | .payloadError _ | .unknownKind _ _ | .status _ _ | .data _ _ => s.done

/-- A DATA record ends (R81, R157, R164). -/
def execDataRecord (t : Reading) (bytes : Bytes) (s : State) : Host.Outcome State Fault Refusal :=
  let s := s.startAt t
  match judgeRecord bytes with
  | .data corrected p =>
    s.endRecord fun s =>
      let s := s.receivePayload corrected p.length
      if s.link.assembly.skipping then s.clearAssembly else s.takeData p
  | .nothing | .headerError | .overLength _ | .payloadError _ | .unknownKind _ _ | .status _ _ | .grant _ _ => s.done

/-- A record of an unknown kind ends and is discarded (R81). -/
def execUnknownKindRecord (t : Reading) (bytes : Bytes) (s : State) : Host.Outcome State Fault Refusal :=
  let s := s.startAt t
  match judgeRecord bytes with
  | .unknownKind corrected n =>
    s.endRecord fun s =>
      let s := s.receivePayload corrected n
      if s.link.assembly.skipping then s.clearAssembly
      else (s.dropRecord.bump ctrUnknownKinds).linkError .kind
  | .nothing | .headerError | .overLength _ | .payloadError _ | .status _ _ | .grant _ _ | .data _ _ => s.done

/-- A record is discarded as a header error (R79, R81). -/
def execHeaderError (t : Reading) (bytes : Bytes) (s : State) : Host.Outcome State Fault Refusal :=
  let s := s.startAt t
  match judgeRecord bytes with
  | .headerError => s.endRecord fun s => (s.dropRecord.bump ctrHeaderErrors).linkError .header
  | .nothing | .overLength _ | .payloadError _ | .unknownKind _ _ | .status _ _ | .grant _ _ | .data _ _ => s.done

/-- A record whose header gives a payload length above 1664 is discarded (R52, R81). -/
def execModemOverLength (t : Reading) (bytes : Bytes) (s : State) : Host.Outcome State Fault Refusal :=
  let s := s.startAt t
  match judgeRecord bytes with
  | .overLength corrected =>
    s.endRecord fun s => (((s.noteCorrection corrected).dropRecord).bump ctrModemOverLength).linkError .length
  | .nothing | .headerError | .payloadError _ | .unknownKind _ _ | .status _ _ | .grant _ _ | .data _ _ => s.done

/-- A record that fails its payload check, or is cut short or overrun at its delimiter, is discarded (R80, R81). -/
def execPayloadError (t : Reading) (bytes : Bytes) (s : State) : Host.Outcome State Fault Refusal :=
  let s := s.startAt t
  match judgeRecord bytes with
  | .payloadError corrected =>
    s.endRecord fun s => (((s.noteCorrection corrected).dropRecord).bump ctrPayloadErrors).linkError .payload
  | .nothing | .headerError | .overLength _ | .unknownKind _ _ | .status _ _ | .grant _ _ | .data _ _ => s.done

/-! ## The commands: the link, transfers and timers -/

/-- The silence timer expires and the link goes down (R83, R84). -/
def execSilenceTimerExpiry (t : Reading) (s : State) : Host.Outcome State Fault Refusal :=
  let s := s.startAt t
  match s.link.silence with
  | none => s.done
  | some r => (s.reach r).linkLoss.done

/-- A pending bearer record, or a staged frame that the balance allows, becomes the record in transfer (R85). -/
def execTransferBegin (t : Reading) (s : State) : Host.Outcome State Fault Refusal :=
  let s := s.startAt t
  State.done { s with due := { s.due with transfer := true } }

/-- A DATA transfer ends: the frame's cells return, its radio pending count falls, the meter counts it, and with the
staged slot empty it is a run complete (R86, R163). -/
def State.dataSent (s : State) (f : UpFrame) (carrier : Nat) : State :=
  let s := (s.returnCells f.cells).frameGone .radio f
  let s := s.meter carrier ctrUpstreamMetered
  if s.sender.staged = none then s.runComplete else s

/-- A record's transfer ends on the Modem link (R86). With nothing in transfer none ends. -/
def execTransferEnd (t : Reading) (s : State) : Host.Outcome State Fault Refusal :=
  let s := s.startAt t
  match s.sender.transfer with
  | none => s.done
  | some x =>
    let s := { s with sender := { s.sender with transfer := none }, due := { s.due with transfer := true } }
    let s := s.bump ctrRecordsSent
    match x with
    | .bearer _ _ => s.done
    | .data f carrier _ => (s.dataSent f carrier).done

/-- The open timer expires in OPENING, as a REFUSED (R90). -/
def execOpenTimerExpiry (t : Reading) (s : State) : Host.Outcome State Fault Refusal :=
  let s := s.startAt t
  match s.bearer.openTimer with
  | none => s.done
  | some r => if s.bearer.state = .opening then (s.reach r).openFailed.done else s.done

/-- The linger timer expires: BEARER_CLOSE is requested and CLOSING entered (R91). -/
def State.lingerExpired (s : State) : State :=
  let s := s.requestBearer .bearerClose
  let s := { s with bearer := { s.bearer with
    lingerTimer := none, closingTimer := some (s.now + s.radio.openTimeout * 1000) } }
  s.setRadioState .closing

/-- The linger timer expires in LINGER (R91). -/
def execLingerTimerExpiry (t : Reading) (s : State) : Host.Outcome State Fault Refusal :=
  let s := s.startAt t
  match s.bearer.lingerTimer with
  | none => s.done
  | some r => if s.bearer.state = .linger then (s.reach r).lingerExpired.done else s.done

/-- The closing timer expires in CLOSING, and READY is entered (R92). -/
def execClosingTimerExpiry (t : Reading) (s : State) : Host.Outcome State Fault Refusal :=
  let s := s.startAt t
  match s.bearer.closingTimer with
  | none => s.done
  | some r => if s.bearer.state = .closing then (s.reach r).closeEnded.done else s.done

/-- The retry timer expires, and with open demand the bearer opens (R89). -/
def execRetryTimerExpiry (t : Reading) (s : State) : Host.Outcome State Fault Refusal :=
  let s := s.startAt t
  match s.bearer.retryTimer with
  | none => s.done
  | some r =>
    let s := s.reach r
    (State.tryOpen { s with bearer := { s.bearer with retryTimer := none } }).done

/-- The next time-base reading, from a given one, that is a whole multiple of 10 ms (R138). -/
def nextRefill (r : Reading) : Reading := (r + (Config.refillPeriod - 1)) / Config.refillPeriod * Config.refillPeriod

/-- A refill instant in OPEN or LINGER, at a time-base reading that is a whole multiple of 10 ms (R138). In any other
radio state the refill is stopped. -/
def execCreditRefill (t : Reading) (s : State) : Host.Outcome State Fault Refusal :=
  let s := s.startAt t
  if s.bearer.state.carrying then (s.reach (nextRefill s.now)).refill.done else s.done

/-- A DRAINING flow's deadline timer expires (R125). The timer of an overdue flow has expired already. -/
def execDrainDeadlineExpiry (t : Reading) (way : Nat) (s : State) : Host.Outcome State Fault Refusal :=
  let s := s.startAt t
  match s.entry way with
  | none => s.done
  | some e =>
    match e.move with
    | none => s.done
    | some m => if m.overdue then s.done else ((s.reach m.deadline).expireDrain way e m).done

end Sys2Proof.Machine
end

