-- ==== Sys2Proof/Machine/Reset.lean ====
section
/-! DEFINITION. RESET_N and what RESTART does once its reply has been written (R57, R76, R98, R116, R129, R150, R161,
R169, R178). -/

namespace Sys2Proof.Machine

/-! ## The receive assemblies (R57, R98) -/

/-- The Ethernet receive assembly is emptied (R57); that the rest of an arriving frame is ignored is the model's choice
(log 29). -/
def Assembly.emptied (a : Assembly) : Assembly := { cells := 0, ignoring := a.ignoring || decide (0 < a.cells) }

/-- The modem receive assembly is emptied; the rest of an arriving record is skipped to the next delimiter (R57, R98).
That a record of which no payload cell had been taken is none under way is the model's choice (log 29). -/
def ModemAssembly.emptied (a : ModemAssembly) : ModemAssembly :=
  { cells := 0, headCounted := false, skipping := a.skipping || a.released || decide (0 < a.cells) }

/-! ## RESET_N -/

/-- RESET_N ends: every block holds its reset values, with the levels of START, LIGHT_LOST and ON_RESERVE at that moment
(R57, R58, R99). The one-time store keeps the factory address. The receiver of the Modem link takes its first record
from the first delimiter (R98): the rest of a record under way is skipped, and the rest of an arriving Ethernet frame is
ignored (log 29). -/
def execResetN (start lightLost onReserve : Bool) (s : State) : Host.Outcome State Fault Refusal :=
  .next { State.afterReset start lightLost onReserve s.factory with
    fibreAssembly := s.fibreAssembly.emptied
    link := { ModemLink.down with assembly := s.link.assembly.emptied }
    premisesAssembly := s.premisesAssembly.emptied
    pending := s.pending }

/-! ## What RESTART removes (R57) -/

/-- The frames of a downstream FIFO that stay: the head, if the Premises port is sending it (R57). -/
def keptDownstream (sending : Bool) (fifo : List Bytes) : List Bytes := if sending then fifo.take 1 else []

/-- The cells of the frame in transmission on the Fibre port (R57). -/
def fibreSendingCells : Option FibreTransmission → Nat
  | some (.frame f) => f.cells
  | some (.probe _) => 0
  | none => 0

/-- What the Fibre port goes on sending: a probe, and no frame (R57, R76). -/
def keptSending : Option FibreTransmission → Option FibreTransmission
  | some (.probe p) => some (.probe p)
  | some (.frame _) => none
  | none => none

/-- The cells of the staged frame and of the frame in transfer. -/
def ModemSender.cells (x : ModemSender) : Nat :=
  (match x.staged with
    | some f => f.cells
    | none => 0) +
  (match x.transfer with
    | some (.data f _ _) => f.cells
    | some (.bearer _ _) => 0
    | none => 0)

/-- The cells of the places that RESTART empties (R57). -/
def State.forwardingCells (s : State) : Nat :=
  cellsOf s.fibre.queue + fibreSendingCells s.fibre.sending + (s.scheduler.queues.toList.map cellsOf).sum
    + s.sender.cells + cellsOf s.held
    + (byteCells s.downstream.fibre - byteCells (keptDownstream (s.egress.sending = some .fibre) s.downstream.fibre))
    + (byteCells s.downstream.radio - byteCells (keptDownstream (s.egress.sending = some .radio) s.downstream.radio))
    + s.fibreAssembly.cells + s.link.assembly.cells

/-- The places that RESTART empties are emptied, together with the Flow Table (R57, R129). A frame still arriving on the
Fibre port is ignored to its end (log 29). -/
def State.emptyForwarding (s : State) : State :=
  { s with
    flows := []
    fibre := { queue := [], sending := keptSending s.fibre.sending, waitingProbe := none }
    fibreAssembly := s.fibreAssembly.emptied
    sender := { bearerSlot := none, staged := none, transfer := none }
    scheduler := { s.scheduler with queues := Vector.replicate 8 [] }
    held := []
    downstream :=
      { fibre := keptDownstream (s.egress.sending = some .fibre) s.downstream.fibre
        radio := keptDownstream (s.egress.sending = some .radio) s.downstream.radio }
    egress := { s.egress with lastServed := .radio } }

/-- RESTART in the Modem Link Unit, the Radio Bearer Controller and the scheduler (R98, R150). A record under way, of which
a payload cell had been taken, is skipped to the next delimiter (R57); one with no more than its header received is taken
whole when its command comes (log 29). -/
def State.restartRadio (s : State) : State :=
  State.setRadioState
    (State.clearRadioSide
      { s with
        link := { up := false, silence := none, assembly := s.link.assembly.emptied, errors := LinkErrors.clear }
        lastSignal := 0
        bearer := { s.bearer with openTimer := none, lingerTimer := none, closingTimer := none, retryTimer := none } })
    .absent

/-- RESTART in the Fibre Path Monitor, all but the probe instant (R76). -/
def State.restartMonitor (s : State) : State :=
  State.setFibreState
    { s with monitor := { s.monitor with
      misses := 0
      hits := 0
      deadline := if s.lightLost then some (s.now + s.holdDown s.monitor.flapCount) else none
      calmStart := if s.lightLost then none else some s.now
      outstanding := none
      nextProbe := none } }
    (if s.lightLost then .down else .up)

/-- The probe instant that RESTART makes if probing runs (R62, R76). -/
def State.restartProbing (s : State) : State := if s.probingRuns then s.probeInstantAt s.now else s

/-- RESTART in the Steering Controller: the mode is recomputed, and the fibre-out mark takes the value of its condition,
without flush or cancellation (R116). -/
def State.restartMode (s : State) : State :=
  let s := s.changeMode s.modeNow
  { s with
    service := { s.service with fibreOut := fibreOutCondition s.service.mode s.monitor.state }
    due := { s.due with mode := false } }

/-- Every counter is 0, match counts included (R8, R19, R40, R55, R56, R75, R97, R115, R131, R149, R160, R169, R179;
log 17). -/
def State.clearAllCounters (s : State) : State :=
  { s with counters := [], rules := s.rules.map fun r => { r with matchCount := 0 } }

/-- RESTART acts on the forwarding state, in one event. -/
def State.restartAll (s : State) : State :=
  let freed := s.forwardingCells
  let s := { s with control := { s.control with restartDue := false, errors := ControlErrors.clear } }
  let s := { s with carrier := { upstreamSequence := 0, expected := none } }
  let s := s.emptyForwarding.restartRadio.restartMonitor.restartProbing
  (s.returnCells freed).restartMode.tryFibre.clearAllCounters

/-- RESTART acts, once the reply of its frame has been written (R178). With no RESTART due it does not act (log 8). -/
def execRestartAct (t : Reading) (s : State) : Host.Outcome State Fault Refusal :=
  let s := s.startAt t
  if s.control.restartDue then s.restartAll.done else s.done

end Sys2Proof.Machine
end

