-- ==== Sys2Proof/Machine/Dispatch.lean ====
section
/-! DEFINITION. One meaning for each command. -/

namespace Sys2Proof.Machine

/-- The effect of a command on everything but the queue of waiting commands. -/
def exec (i : Instr) (s : State) : Host.Outcome State Fault Refusal :=
  match i with
  | .resetN start lightLost onReserve => Sys2Proof.Machine.execResetN start lightLost onReserve s
  | .lightLostActive t => Sys2Proof.Machine.execLightLostActive t s
  | .lightLostInactive t => Sys2Proof.Machine.execLightLostInactive t s
  | .onReserveActive t => Sys2Proof.Machine.execOnReserveActive t s
  | .onReserveInactive t => Sys2Proof.Machine.execOnReserveInactive t s
  | .premisesCellTake t n => Sys2Proof.Machine.execPremisesCellTake t n s
  | .premisesFrameReceived t data checkGood => Sys2Proof.Machine.execPremisesFrameReceived t data checkGood s
  | .fibreCellTake t n => Sys2Proof.Machine.execFibreCellTake t n s
  | .fibreFrameReceived t data checkGood => Sys2Proof.Machine.execFibreFrameReceived t data checkGood s
  | .fibreTransmitEnd t => Sys2Proof.Machine.execFibreTransmitEnd t s
  | .probeInstant t => Sys2Proof.Machine.execProbeInstant t s
  | .holdDownDeadline t => Sys2Proof.Machine.execHoldDownDeadline t s
  | .calmPeriodEnd t => Sys2Proof.Machine.execCalmPeriodEnd t s
  | .modemCellTake t head n => Sys2Proof.Machine.execModemCellTake t head n s
  | .statusRecord t bytes => Sys2Proof.Machine.execStatusRecord t bytes s
  | .grantRecord t bytes => Sys2Proof.Machine.execGrantRecord t bytes s
  | .dataRecord t bytes => Sys2Proof.Machine.execDataRecord t bytes s
  | .unknownKindRecord t bytes => Sys2Proof.Machine.execUnknownKindRecord t bytes s
  | .silenceTimerExpiry t => Sys2Proof.Machine.execSilenceTimerExpiry t s
  | .transferBegin t => Sys2Proof.Machine.execTransferBegin t s
  | .transferEnd t => Sys2Proof.Machine.execTransferEnd t s
  | .openTimerExpiry t => Sys2Proof.Machine.execOpenTimerExpiry t s
  | .lingerTimerExpiry t => Sys2Proof.Machine.execLingerTimerExpiry t s
  | .closingTimerExpiry t => Sys2Proof.Machine.execClosingTimerExpiry t s
  | .retryTimerExpiry t => Sys2Proof.Machine.execRetryTimerExpiry t s
  | .creditRefill t => Sys2Proof.Machine.execCreditRefill t s
  | .drainDeadlineExpiry t way => Sys2Proof.Machine.execDrainDeadlineExpiry t way s
  | .agingVisit t way => Sys2Proof.Machine.execAgingVisit t way s
  | .holdTimerExpiry t => Sys2Proof.Machine.execHoldTimerExpiry t s
  | .controlFrameBegin t => Sys2Proof.Machine.execControlFrameBegin t s
  | .discover t => Sys2Proof.Machine.execDiscover t s
  | .readStationRecord t => Sys2Proof.Machine.execReadStationRecord t s
  | .writeStationRecord t => Sys2Proof.Machine.execWriteStationRecord t s
  | .readClassRuleTable t => Sys2Proof.Machine.execReadClassRuleTable t s
  | .writeClassRuleTable t => Sys2Proof.Machine.execWriteClassRuleTable t s
  | .readClassTable t => Sys2Proof.Machine.execReadClassTable t s
  | .writeClassTable t => Sys2Proof.Machine.execWriteClassTable t s
  | .readFlowTable t => Sys2Proof.Machine.execReadFlowTable t s
  | .deleteFlow t => Sys2Proof.Machine.execDeleteFlow t s
  | .flushFlows t => Sys2Proof.Machine.execFlushFlows t s
  | .readProbeRecord t => Sys2Proof.Machine.execReadProbeRecord t s
  | .writeProbeRecord t => Sys2Proof.Machine.execWriteProbeRecord t s
  | .readRadioRecord t => Sys2Proof.Machine.execReadRadioRecord t s
  | .writeRadioRecord t => Sys2Proof.Machine.execWriteRadioRecord t s
  | .readTunnelRecord t => Sys2Proof.Machine.execReadTunnelRecord t s
  | .writeTunnelRecord t => Sys2Proof.Machine.execWriteTunnelRecord t s
  | .readAllowanceRecord t => Sys2Proof.Machine.execReadAllowanceRecord t s
  | .writeAllowanceRecord t => Sys2Proof.Machine.execWriteAllowanceRecord t s
  | .readStatusSnapshot t => Sys2Proof.Machine.execReadStatusSnapshot t s
  | .readCounters t => Sys2Proof.Machine.execReadCounters t s
  | .hold t => Sys2Proof.Machine.execHold t s
  | .release t => Sys2Proof.Machine.execRelease t s
  | .beginService t => Sys2Proof.Machine.execBeginService t s
  | .restart t => Sys2Proof.Machine.execRestart t s
  | .newPeriod t => Sys2Proof.Machine.execNewPeriod t s
  | .setUsed t => Sys2Proof.Machine.execSetUsed t s
  | .replyWrite t => Sys2Proof.Machine.execReplyWrite t s
  | .restartAct t => Sys2Proof.Machine.execRestartAct t s
  | .noticeWrite t => Sys2Proof.Machine.execNoticeWrite t s
  | .noticeSpacingEnd t => Sys2Proof.Machine.execNoticeSpacingEnd t s
  | .premisesTransmitEnd t => Sys2Proof.Machine.execPremisesTransmitEnd t s
  | .headerError t bytes => Sys2Proof.Machine.execHeaderError t bytes s
  | .modemOverLength t bytes => Sys2Proof.Machine.execModemOverLength t bytes s
  | .payloadError t bytes => Sys2Proof.Machine.execPayloadError t bytes s
  | .badKindRequest t => Sys2Proof.Machine.execBadKindRequest t s
end Sys2Proof.Machine
end

