-- ==== Sys2Proof/Safety.lean ====
section
/-! DEFINITION. What the claims about the part are stated in: the answer of a command, and the laws that hold between any
two events. Each law is a property of the state alone; the rule it comes from stands beside it. -/

namespace Sys2Proof.Machine

/-! ## Answers and invariants -/

/-- The command answers a next state, and that state has a property. -/
def Answers (c : Instr) (s : State) (post : State → Prop) : Prop := ∃ t, exec c s = .next t ∧ post t

/-- Every step from a state with a property leads to a state with it. -/
def KeptByEveryStep (law : State → Prop) : Prop := ∀ s t, law s → step s = .next t → law t

/-! ## What the end of an event leaves alone -/

/-- The loaded records, the lines, the monitor, the receive sides, the meter, the Control Unit and the time: all that
`State.settle` leaves alone. -/
structure Kept where
  now : Reading
  lightLost : Bool
  factory : Addr
  station : Station
  rules : Vector Rule 64
  classes : Vector ClassEntry 8
  monitor : Monitor
  probe : ProbeRecord
  fibreAssembly : Assembly
  link : ModemLink
  lastSignal : Nat
  radio : RadioRecord
  tunnel : TunnelRecord
  expected : Option Nat
  allowance : Allowance
  steering : Steering
  premisesAssembly : Assembly
  downstream : Downstream
  control : Control
  pending : List Instr
  deriving DecidableEq, Repr

/-- That part of a state. -/
def State.kept (s : State) : Kept :=
  { now := s.now, lightLost := s.lightLost, factory := s.factory, station := s.station, rules := s.rules,
    classes := s.classes, monitor := s.monitor, probe := s.probe, fibreAssembly := s.fibreAssembly, link := s.link,
    lastSignal := s.lastSignal, radio := s.radio, tunnel := s.tunnel, expected := s.carrier.expected,
    allowance := s.allowance, steering := s.steering, premisesAssembly := s.premisesAssembly,
    downstream := s.downstream, control := s.control, pending := s.pending }

/-- Whether an odd number of the 1 bits of a header have bit `j` in their codes: bit `j` of the syndrome of R78, read
off the codes. -/
def parityOfCodes (header : BitVec 24) (j : Nat) : Bool :=
  ((List.range 24).filter fun i => header.getLsbD i && (headerCodes.getD i 0).testBit j).length % 2 = 1

/-! ## Exact answers -/

/-- A state with nothing owed. -/
def State.undue (s : State) : State := { s with due := Due.nothing }

/-- A notice is written at the end of an event that has led to this state, and the port begins what the arbiter then
chooses. -/
def State.noticed (s : State) : State := { s.writeNotice.beginPremises with due := Due.nothing }

/-- The command leads to a state exactly, or to that state with a notice written where the four conditions of a notice
hold in it (R181). -/
def LeadsTo (c : Instr) (s e : State) : Prop :=
  exec c s = .next e ∨ (e.noticeReady = true ∧ exec c s = .next e.noticed)

/-- The next request of the frame in execution is `r`, and it asks for `a` (R172). -/
def NextRequest (s : State) (x : Execution) (r : Request) (a : Action) : Prop :=
  s.control.execution = some x ∧ x.todo.head? = some r ∧ r.action x.broadcast = a

/-- The Control Unit with the next request of a frame answered: the request is done with, and its result stands behind
the results before it (R172). -/
def Control.answered (k : Control) (x : Execution) (result : Result) : Control :=
  { k with execution := some { x with todo := x.todo.drop 1, results := x.results ++ [result] } }

/-- The result of a request that was not refused and returns no data (R172, R176). -/
def plainResult (r : Request) (clamped : Bool) : Result :=
  { status := doneStatus r clamped false, kind := r.kind, count := 0, data := [] }

/-- The result of a refused request (R172). -/
def refusal (r : Request) (status : Status) : Result := { status := status, kind := r.kind, count := 0, data := [] }

/-! ## Where the handling of a frame or record begins -/

/-- The state in which the handling of a frame begins: its cells have passed out of the assembly, and a header fault is
counted (R6, R44). -/
def arrived (s : State) (t : Reading) (data : Bytes) : State :=
  let e := { s.startAt t with premisesAssembly := { cells := 0, ignoring := false } }
  if (readFields data).fault then e.bump ctrHeaderFaults else e

/-- A frame that ends whole on the Premises port, good, of an accepted length, no control frame, in a begun mode (R1). -/
def handled (s : State) (data : Bytes) : Prop :=
  s.premisesAssembly = { cells := cellsFor data.length, ignoring := false } ∧ 60 ≤ data.length
    ∧ s.isControl data = false ∧ (s.service.mode = .normal ∨ s.service.mode = .fallback ∨ s.service.mode = .isolated)

/-- The admission tests of R45 pass a frame of `k` cells and a level at the fibre egress queue. -/
def fibreAdmits (s : State) (k level : Nat) : Prop :=
  s.fibreOccupancy + k ≤ s.station.fibreLimit ∧ k ≤ s.pool.free ∧ (level ≤ 1 ∨ s.station.reserveFloor + k ≤ s.pool.free)

/-- The admission tests of R45 pass a frame of `k` cells of a class at its radio queue. -/
def radioAdmits (s : State) (c : TrafficClass) (k : Nat) : Prop :=
  cellsOf (s.radioQueue c) + k ≤ (s.classEntry c).queueLimit ∧ k ≤ s.pool.free
    ∧ ((s.classEntry c).level ≤ 1 ∨ s.station.reserveFloor + k ≤ s.pool.free)

/-- No bearer is open and none can be opened now: a frame that joins a radio queue sets off nothing (R89, R143). -/
def radioQuiet (s : State) : Prop :=
  s.bearer.state.carrying = false ∧ (s.bearer.state = .ready → s.bearer.retryTimer ≠ none)

/-- A record that the receiver is not skipping ends with its `k` cells in the assembly, its bytes judged as given (R52,
R81). A record that gave its cells back when the link went down under it holds none (R83, R84, log 30). -/
def recordEnds (s : State) (bytes : Bytes) (judged : RecordOutcome) (k : Nat) : Prop :=
  judgeRecord bytes = judged ∧ s.link.assembly.skipping = false
    ∧ (s.link.assembly.cells = k ∨ s.link.assembly.released = true)

/-- The state with the modem receive assembly empty and the cells of its record back in the pool (R52, R81). -/
def recordDropped (s : State) (t : Reading) : State :=
  State.returnCells { s.startAt t with link := { s.link with assembly := ModemAssembly.empty } } s.link.assembly.cells

/-! ## Ranges (00_scope.md, E: "Out-of-range values") -/

/-- A number lies in a range, both ends included. -/
abbrev within (lo hi v : Nat) : Prop := lo ≤ v ∧ v ≤ hi

/-- The Station record within the ranges of R174. -/
abbrev Station.inRange (r : Station) : Prop :=
  within 0x0600 0xFFFF r.controlType ∧ r.address.getLsbD 40 = false ∧ within 128 1500 r.largestReply
    ∧ r.managerCeiling ≤ 7 ∧ r.reserveCeiling ≤ 7 ∧ within 1 60 r.holdTimeout ∧ r.reserveFloor ≤ 512
    ∧ within 12 1024 r.fibreLimit ∧ within 24 1024 r.downstreamLimit

/-- A match range of a rule: low does not exceed high, nor high its greatest value (R8). -/
abbrev MatchRange.inRange (top : Nat) (r : MatchRange) : Prop := r.low ≤ r.high ∧ r.high ≤ top

/-- A rule within the ranges of R8. -/
abbrev Rule.inRange (r : Rule) : Prop :=
  (∀ v ∈ r.etherType, within 0x0600 0xFFFF v) ∧ (∀ v ∈ r.protocol, v ≤ 255) ∧ (∀ x ∈ r.dscp, x.inRange 63)
    ∧ (∀ x ∈ r.sourcePort, x.inRange 65535) ∧ (∀ x ∈ r.destPort, x.inRange 65535) ∧ (∀ x ∈ r.vlan, x.inRange 7)
    ∧ r.matchCount ≤ Config.counterTop

/-- A Class Table entry within the ranges of R17. -/
abbrev ClassEntry.inRange (e : ClassEntry) : Prop :=
  e.level ≤ 7 ∧ within 1 64 e.weight ∧ within 1 255 e.burst ∧ within 12 1024 e.queueLimit ∧ e.sojournLimit ≤ 255
    ∧ e.drainTime ≤ 255 ∧ e.idleTimeout ≤ 255

/-- The Probe record within the ranges of R59. -/
abbrev ProbeRecord.inRange (p : ProbeRecord) : Prop :=
  within 0x0600 0xFFFF p.etherType ∧ within 1 100 p.interval ∧ within 1 15 p.missLimit ∧ within 1 15 p.restoreCount
    ∧ within 1 255 p.baseHoldDown ∧ within 1 255 p.calmPeriod

/-- The Radio record within the ranges of R95. -/
abbrev RadioRecord.inRange (r : RadioRecord) : Prop :=
  r.linger ≤ 60 ∧ r.reserveLinger ≤ 60 ∧ within 1 30 r.openTimeout ∧ within 1 60 r.retryInterval ∧ r.riseShift ≤ 7
    ∧ r.fallShift ≤ 7 ∧ within 8 16 r.headroom ∧ within 1 64 r.runLimit

/-- A fix-up of the Tunnel record lies inside the template (R151). -/
abbrev fixInside (templateLength : Nat) (fix : Option Nat) : Prop := ∀ o ∈ fix, o + 2 ≤ templateLength

/-- The Tunnel record within the ranges of R151. -/
abbrev TunnelRecord.inRange (t : TunnelRecord) : Prop :=
  (t.templateLength = 0 ∨ within 20 64 t.templateLength) ∧ fixInside t.templateLength t.fixA
    ∧ fixInside t.templateLength t.fixB ∧ fixInside t.templateLength t.fixChecksum ∧ t.upstreamId ≤ 65535
    ∧ t.downstreamId ≤ 65535 ∧ t.stripLength ≤ 64

/-- The Allowance record within the ranges of R162. -/
abbrev Allowance.inRange (a : Allowance) : Prop :=
  a.total ≤ 65535 ∧ a.used ≤ Config.usedTop ∧ (∀ st ∈ a.steps.toList, within 1 16 st.fraction ∧ st.ceiling ≤ 7)

/-- Every loaded table and record holds values of its ranges, and the factory address, which RESET_N makes the station
address, is no group address (00_scope.md, E; R8, R17, R59, R95, R151, R162, R174). -/
abbrev RecordsInRange (s : State) : Prop :=
  s.factory.getLsbD 40 = false ∧ s.station.inRange ∧ (∀ r ∈ s.rules.toList, r.inRange) ∧ (∀ e ∈ s.classes.toList, e.inRange) ∧ s.probe.inRange
    ∧ s.radio.inRange ∧ s.tunnel.inRange ∧ s.allowance.inRange

/-! ## The Cell Pool (R41) -/

/-- The cells of the reply being written. -/
def replyReserve : Option Execution → Nat
  | some x => x.replyCells
  | none => 0

/-- The cells in the twelve places of R41. -/
def State.placedCells (s : State) : Nat :=
  s.premisesAssembly.cells + byteCells s.control.queue + replyReserve s.control.execution
    + (cellsOf s.fibre.queue + fibreSendingCells s.fibre.sending) + (s.scheduler.queues.toList.map cellsOf).sum
    + s.sender.cells + cellsOf s.held + s.link.assembly.cells + byteCells s.egress.priority
    + byteCells s.downstream.fibre + byteCells s.downstream.radio + s.fibreAssembly.cells

/-- A frame or record that is being ignored holds no cell, and one that gave its cells back at link loss has none while the
link stays down (R44, R51, R52, R84). -/
abbrev AssembliesClean (s : State) : Prop :=
  (s.premisesAssembly.ignoring = true → s.premisesAssembly.cells = 0)
    ∧ (s.fibreAssembly.ignoring = true → s.fibreAssembly.cells = 0)
    ∧ (s.link.assembly.skipping = true → s.link.assembly.cells = 0)
    ∧ (s.link.assembly.released = true → s.link.assembly.cells = 0 ∧ s.link.up = false)

/-- The bytes of a reply's payload so far: its own head, all the result heads, the data placed (R172). -/
def Execution.size (x : Execution) : Nat := 2 + 6 * x.requests + (x.results.map (·.data.length)).sum

/-- A frame in execution answers each of its 1 to 16 requests once, within the largest reply it began with (R171,
R172). -/
abbrev Execution.fits (x : Execution) : Prop :=
  x.results.length + x.todo.length = x.requests ∧ x.requests ≤ 16 ∧ within 128 1500 x.largest ∧ x.size ≤ x.largest
    ∧ x.replyCells = replyCellsFor x.largest

/-- The reply of the frame in execution fits into the cells taken for it (R49, R172). -/
abbrev ReplyFits (s : State) : Prop :=
  within 128 1500 s.station.largestReply ∧ ∀ x ∈ s.control.execution, x.fits

/-- Each of the 2048 cells is either free or belongs to one of the places (R41). -/
abbrev CellsAccounted (s : State) : Prop :=
  s.pool.free + s.placedCells = Config.poolCells ∧ AssembliesClean s ∧ ReplyFits s

/-! ## The Flow Table and the held list (R20, R30, R117, R130) -/

/-- The frame in transmission on the Fibre port. -/
def sendingFrames : Option FibreTransmission → List UpFrame
  | some (.frame f) => [f]
  | some (.probe _) => []
  | none => []

/-- The frame in transfer on the Modem link. -/
def transferFrames : Option Transfer → List UpFrame
  | some (.data f _ _) => [f]
  | some (.bearer _ _) => []
  | none => []

/-- The frame in the staged slot. -/
def stagedFrames : Option UpFrame → List UpFrame
  | some f => [f]
  | none => []

/-- The frames on the fibre path in the order in which they leave. -/
def State.fibreFrames (s : State) : List UpFrame := sendingFrames s.fibre.sending ++ s.fibre.queue

/-- The frames beyond the class queues, in the order in which they leave. -/
def State.committedFrames (s : State) : List UpFrame :=
  transferFrames s.sender.transfer ++ stagedFrames s.sender.staged

/-- The frames in the radio class queues. -/
def State.queuedFrames (s : State) : List UpFrame := (s.scheduler.queues.toList).flatten

/-- The frames on the radio path. -/
def State.radioFrames (s : State) : List UpFrame := s.committedFrames ++ s.queuedFrames

/-- Every upstream frame that the part holds whole. -/
def State.upFrames (s : State) : List UpFrame := s.fibreFrames ++ s.radioFrames ++ s.held

/-- How many frames of a list carry a table index. -/
def countOf (i : Nat) (fs : List UpFrame) : Nat := (fs.filter (UpFrame.ofFlow i)).length

/-- The counts of an entry are those of the frames that carry its index (R30). -/
abbrev CountsTrue (s : State) (i : Nat) (e : FlowEntry) : Prop :=
  e.fibrePending = countOf i s.fibreFrames ∧ e.radioPending = countOf i s.radioFrames ∧ e.held = countOf i s.held

/-- A frame that carries an index stands for an entry in use of its class. -/
abbrev FrameOwned (s : State) (f : UpFrame) : Prop :=
  ∀ i ∈ f.flow, ∃ p ∈ s.flows, p.1 = i ∧ f.cls = some p.2.cls

/-- The frames of a class queue are of its class (R47). -/
abbrev QueuesOfClass (s : State) : Prop := ∀ c : TrafficClass, ∀ f ∈ s.radioQueue c, f.cls = some c

/-- A move of an entry: an ACTIVE flow holds no frame back; a DRAINING flow moves to the other path while frames stand
on the old one (R34, R117, R118). -/
abbrev MoveTrue (e : FlowEntry) : Prop :=
  (e.move = none → e.held = 0) ∧ ∀ m ∈ e.move, m.target ≠ e.uplink ∧ 0 < e.pendingOn e.uplink

/-- The other path. -/
def Uplink.other : Uplink → Uplink
  | .fibre => .radio
  | .radio => .fibre

/-- The Flow Table is in order: at most one entry for an index, every count is that of its places, every indexed frame
has its entry, and a flow's frames are on the path its entry names or held (R20, R30, R117, R118). -/
abbrev FlowsAccounted (s : State) : Prop :=
  assocSorted s.flows
    ∧ (∀ p ∈ s.flows, p.1 < 1024 ∧ CountsTrue s p.1 p.2 ∧ MoveTrue p.2 ∧ p.2.pendingOn p.2.uplink.other = 0)
    ∧ (∀ f ∈ s.upFrames, FrameOwned s f) ∧ QueuesOfClass s

/-- The frames of a flow on a path in the order in which they leave, and behind them its held frames. -/
def State.flowLine (s : State) (i : Nat) (e : FlowEntry) : List UpFrame :=
  ((match e.uplink with
    | .fibre => s.fibreFrames
    | .radio => s.committedFrames ++ s.radioQueue e.cls) ++ s.held).filter (UpFrame.ofFlow i)

/-- The arrival times of a line of frames do not fall, and none is later than a reading. -/
abbrev arrivalsInOrder (now : Reading) (line : List UpFrame) : Prop :=
  line.Pairwise (fun f g => f.arrival ≤ g.arrival) ∧ ∀ f ∈ line, f.arrival ≤ now

/-- The frames of every flow stand in the order of their arrival (R130). -/
abbrev FlowsInOrder (s : State) : Prop :=
  FlowsAccounted s ∧ ∀ p ∈ s.flows, arrivalsInOrder s.now (s.flowLine p.1 p.2)

/-- Every entry stands in the bucket that its key hashes to, and no key has two entries (R20). -/
abbrev KeysPlaced (s : State) : Prop :=
  (∀ p ∈ s.flows, p.1 / 4 = bucketOf p.2.key) ∧ s.flows.Pairwise (fun p q => p.2.key ≠ q.2.key)

/-! ## The queues with a bound (R49, R50, R117) -/

/-- The control queue and the priority FIFO hold at most 4 frames, a place reserved for a reply counted, and the held
list at most 64 (R49, R50, R117). -/
abbrev QueuesBounded (s : State) : Prop :=
  s.control.queue.length ≤ Config.smallFifo ∧ s.priorityCount ≤ Config.smallFifo ∧ s.held.length ≤ Config.heldFrames

/-! ## The radio side (R83, R88 to R93, R132, R139) -/

/-- The link is up exactly while the radio state is other than ABSENT, and the silence timer runs exactly then
(R83). -/
abbrev LinkAgrees (s : State) : Prop :=
  (s.link.up = true ↔ s.bearer.state ≠ .absent) ∧ (s.link.silence.isSome = s.link.up)

/-- Each bearer timer runs in its own state alone ("The radio state at a glance", chapter 5). -/
abbrev TimersAgree (s : State) : Prop :=
  (s.bearer.openTimer.isSome = true ↔ s.bearer.state = .opening)
    ∧ (s.bearer.lingerTimer.isSome = true ↔ s.bearer.state = .linger)
    ∧ (s.bearer.closingTimer.isSome = true ↔ s.bearer.state = .closing)
    ∧ (s.bearer.retryTimer.isSome = true → s.bearer.state = .ready)

/-- A frame is staged in OPEN alone, and carries its class (R87, R91). -/
abbrev StagedInOpen (s : State) : Prop :=
  ∀ f ∈ s.sender.staged, s.bearer.state = .opened ∧ f.cls.isSome = true

/-- The state machine of the bearer, its link and its timers agree (R83, R88 to R93). -/
abbrev BearerAgrees (s : State) : Prop :=
  LinkAgrees s ∧ TimersAgree s ∧ StagedInOpen s ∧ QueuesOfClass s

/-- The frames that the part holds whole are of an accepted length (00_scope.md, E). -/
abbrev FramesAccepted (s : State) : Prop :=
  s.premisesAssembly.cells ≤ Config.maxFrameCells
    ∧ ∀ f ∈ s.upFrames, within Config.minFrame Config.maxFrame f.data.length

/-- Every class credit lies within -1535 and its cap (R139). -/
abbrev CreditsBounded (s : State) : Prop :=
  FramesAccepted s ∧ ∀ c : TrafficClass, -1535 ≤ s.credit c ∧ s.credit c ≤ s.creditCap c

/-- The counts of the radio side and of the monitor lie in their ranges (R58, R82, R132, R133, R135, R156, R158). -/
abbrev CountsInRange (s : State) : Prop :=
  s.scheduler.balance ≤ 65535 ∧ s.scheduler.estimate ≤ Config.rateTop ∧ s.scheduler.runCount ≤ 64
    ∧ s.carrier.upstreamSequence < 65536 ∧ (∀ e ∈ s.carrier.expected, e < 65536) ∧ s.lastSignal ≤ 63
    ∧ s.monitor.hits ≤ 15 ∧ s.monitor.flapCount ≤ 15 ∧ s.monitor.nextSequence < 65536

/-! ## The Fibre Path Monitor (R58 to R72) -/

/-- The light line, the fibre state, the two deadlines, the misses and the probes agree: a lost light keeps the fibre
DOWN; the hold-down deadline stands exactly in DOWN and RECOVERING and the calm start exactly in UP and SUSPECT; misses
are counted in SUSPECT alone; a next instant is set exactly while probing runs, and a probe is outstanding only then
(R58 to R62, R67 to R72). -/
abbrev MonitorAgrees (s : State) : Prop :=
  (s.lightLost = true → s.monitor.state = .down)
    ∧ s.monitor.deadline.isSome = !s.monitor.state.alive ∧ s.monitor.calmStart.isSome = s.monitor.state.alive
    ∧ (s.monitor.misses = 0 ↔ s.monitor.state ≠ .suspect) ∧ (s.monitor.hits = 0 ↔ s.monitor.state ≠ .recovering)
    ∧ s.monitor.nextProbe.isSome = s.probingRuns ∧ (s.monitor.outstanding.isSome = true → s.probingRuns = true)

/-! ## The Steering Controller and the Allowance Meter (R104, R108, R114, R166) -/

/-- The service mode, the lamp and the fibre-out mark are what the present inputs give (R104, R108, R114). -/
abbrev ServiceAgrees (s : State) : Prop :=
  s.service.mode = s.modeNow ∧ s.service.lamp = s.service.mode.lampLit
    ∧ s.service.fibreOut = fibreOutCondition s.service.mode s.monitor.state

/-- The allowance ceiling is that of the table of R166. -/
abbrev CeilingAgrees (s : State) : Prop := s.allowance.ceiling = s.allowance.ceilingNow

/-- The pool-low mark says whether the free count is below the reserve floor (R54). -/
abbrev MarkAgrees (s : State) : Prop := s.pool.low = decide (s.pool.free < s.station.reserveFloor)

/-! ## Counters and the queue of commands -/

/-- Counters are in canonical form, none above its top (00_scope.md, E). -/
abbrev CountersWf (s : State) : Prop := countersWf s.counters

/-- Nothing is owed between events (log 4). -/
abbrev NothingOwed (s : State) : Prop := s.due = Due.nothing

/-- No notice can be written: the notice address is zero (R181). -/
abbrev NoticesOff (s : State) : Prop := s.station.noticeAddress = 0

end Sys2Proof.Machine
end

