-- ==== Sys2Proof/Certificates/Slice0/Obligations.lean ====
section
/-! DEFINITION. The statements about the part, for the provers. -/

open Sys2Proof Sys2Proof.Machine

/-! ## The queue of commands and the passing of time -/

/-- A step takes the command at the front of the queue and runs it on the state with the rest of the queue. With no command
waiting a millisecond passes and nothing else changes: that clause is the model's choice (log 1). -/
def Obligations.StepTakesTheFrontCommand : Prop :=
  (∀ (c : Instr) (rest : List Instr) (s : State), step { s with pending := c :: rest } = exec c { s with pending := rest })
    ∧ ∀ s : State, s.pending = [] → step s = .next { s with now := s.now + 1 }

/-- Every command, in every state, answers a next state (the model has no fault and refuses nothing). It leaves the
queue and the one-time store alone, owes nothing afterwards, and but for RESET_N never sets the time base back. These are
the model's choices: a command whose event cannot come passes time (log 5), no stop (log 21), nothing owed (log 4), and the
later of the two readings (log 1). -/
def Obligations.EveryCommandAnswers : Prop :=
  ∀ (c : Instr) (s : State), Answers c s fun u =>
    u.pending = s.pending ∧ u.factory = s.factory ∧ NothingOwed u ∧ ((∀ a b d, c ≠ .resetN a b d) → s.now ≤ u.now)

/-! ## Reset -/

/-- RESET_N leaves the reset values that the manual gives, by the levels of the three lines (R57, R58, R99 and each
block's own table), every loaded table and record included (R8, R17, R59, R95, R151, R162, R174). Two values are the
model's: the ceiling, computed, is 2 with ON_RESERVE active, where the manual names 7 (log 9, log 28); and what was arriving
is passed over, on the Modem link up to the first delimiter (R98, log 29). -/
def Obligations.ResetLeavesTheResetValues : Prop :=
  ∀ (strapHigh lightLost onReserve : Bool) (s : State), Answers (.resetN strapHigh lightLost onReserve) s fun u =>
    u.now = 0 ∧ u.lightLost = lightLost
      ∧ u.steering = { strapHigh := strapHigh, begun := false, reserve := onReserve }
      ∧ u.service = { mode := if strapHigh then .pass else .hold, fibreOut := false, lamp := false }
      ∧ u.pool = { free := 2048, low := false } ∧ u.placedCells = 0 ∧ u.flows = [] ∧ u.held = []
      ∧ u.egress = { priority := [], sending := none, lastServed := .radio } ∧ u.downstream = { fibre := [], radio := [] }
      ∧ u.fibre = { queue := [], sending := none, waitingProbe := none } ∧ u.counters = []
      ∧ u.notices = { causes := Causes.empty, last := none }
      ∧ u.monitor =
          { state := if lightLost then .down else .up, misses := 0, hits := 0, flapCount := 0,
            deadline := if lightLost then some 10000 else none, calmStart := if lightLost then none else some 0,
            nextSequence := 0, outstanding := none, nextProbe := none }
      ∧ u.link.up = false ∧ u.link.silence = none ∧ u.link.errors = LinkErrors.clear ∧ u.lastSignal = 0
      ∧ u.sender = { bearerSlot := none, staged := none, transfer := none }
      ∧ u.link.assembly =
          { cells := 0, headCounted := false,
            skipping := s.link.assembly.skipping || s.link.assembly.released || decide (0 < s.link.assembly.cells) }
      ∧ u.fibreAssembly = { cells := 0, ignoring := s.fibreAssembly.ignoring || decide (0 < s.fibreAssembly.cells) }
      ∧ u.premisesAssembly =
          { cells := 0, ignoring := s.premisesAssembly.ignoring || decide (0 < s.premisesAssembly.cells) }
      ∧ u.bearer = { state := .absent, openTimer := none, lingerTimer := none, closingTimer := none, retryTimer := none }
      ∧ u.scheduler =
          { queues := Vector.replicate 8 [], credit := Vector.replicate 8 0, balance := 0, estimate := 0,
            sampled := false, runClass := none, runCount := 0 }
      ∧ u.carrier = { upstreamSequence := 0, expected := none } ∧ u.effectiveCeiling = (if onReserve then 2 else 7)
      ∧ u.control =
          { queue := [], execution := none, restartDue := false, hold := none, errors := ControlErrors.clear }
      ∧ u.station =
          { controlType := 0x9A21, address := s.factory, noticeAddress := 0, largestReply := 512, defaultClass := 5,
            managerCeiling := 7, reserveCeiling := 2, force := .none, holdTimeout := 5, reserveFloor := 128,
            fibreLimit := 256, downstreamLimit := 512 }
        ∧ u.rules = Vector.replicate 64
            { valid := false, etherType := none, protocol := none, dscp := none, sourcePort := none, destPort := none,
              vlan := none, result := 0, matchCount := 0 }
        ∧ u.classes = Vector.replicate 8
            { level := 7, weight := 64, burst := 12, queueLimit := 64, sojournLimit := 0, drainTime := 50,
              idleTimeout := 60, policy := .follow, exempt := false }
        ∧ u.probe =
            { destination := 0, etherType := 0x9A22, token := 0, interval := 10, missLimit := 3, restoreCount := 5,
              baseHoldDown := 10, calmPeriod := 30 }
        ∧ u.radio =
            { linger := 10, reserveLinger := 2, openTimeout := 5, retryInterval := 15, riseShift := 3, fallShift := 1,
              headroom := 14, runLimit := 8, preOpen := false }
        ∧ u.tunnel =
            { templateLength := 0, template := 0, fixA := none, fixB := none, fixChecksum := none, upstreamId := 0,
              downstreamId := 0, stripLength := 0 }
        ∧ u.allowance =
            { total := 0, used := 0, steps := Vector.replicate 4 { fraction := 16, ceiling := 7 }, ceiling := 7 }

/-- Every law of the part that the statements below carry from step to step holds right after RESET_N, whatever the
levels of the lines, for a part whose factory address is no group address. -/
def Obligations.EveryLawHoldsAfterReset : Prop :=
  ∀ (strapHigh lightLost onReserve : Bool) (factory : Addr), factory.getLsbD 40 = false →
    let s := State.afterReset strapHigh lightLost onReserve factory
    (RecordsInRange s ∧ CellsAccounted s ∧ FlowsInOrder s ∧ KeysPlaced s ∧ QueuesBounded s)
      ∧ (BearerAgrees s ∧ CreditsBounded s ∧ CountsInRange s ∧ MonitorAgrees s)
      ∧ (ServiceAgrees s ∧ CeilingAgrees s ∧ MarkAgrees s ∧ CountersWf s ∧ NothingOwed s)

/-! ## What every step keeps -/

/-- Every loaded table and record keeps values of its ranges, whatever the manager writes (00_scope.md, E). -/
def Obligations.RecordsStayInRange : Prop := KeptByEveryStep RecordsInRange

/-- Each of the 2048 cells stays free or in one place (R41). -/
def Obligations.CellsStayAccounted : Prop := KeptByEveryStep CellsAccounted

/-- The counts of every flow entry stay those of the frames that carry its index, and a flow's frames stay on the path
its entry names or held (R30, R34, R117, R118). -/
def Obligations.FlowCountsStayTrue : Prop := KeptByEveryStep FlowsAccounted

/-- The frames of every flow stay in the order of their arrival, from the place where they leave back to the held list
(R130). -/
def Obligations.FlowsStayInOrder : Prop := KeptByEveryStep FlowsInOrder

/-- Beside true flow counts every entry stays in the bucket of its key, and no key gets a second entry (R20, R23); and the
link, the radio state, its timers and the staged slot stay in agreement (R83, R87 to R93). Beside records in their ranges
the misses stay within 15 (R58). -/
def Obligations.KeysBearerAndMissesStayTrue : Prop :=
  KeptByEveryStep (fun s => KeysPlaced s ∧ FlowsAccounted s)
    ∧ KeptByEveryStep (fun s => BearerAgrees s ∧ FlowsAccounted s)
    ∧ KeptByEveryStep (fun s => RecordsInRange s ∧ s.monitor.misses ≤ 15)

/-- Every class credit stays within -1535 and its cap, beside frames of accepted lengths (R139). -/
def Obligations.CreditsStayBounded : Prop := KeptByEveryStep CreditsBounded

/-- The light line, the fibre state, its deadlines and its probes stay in agreement (R58 to R62, R67 to R72). -/
def Obligations.MonitorStaysInAgreement : Prop := KeptByEveryStep MonitorAgrees

/-- The control queue, the priority FIFO and the held list stay within their bounds; the balance, the estimate, the run
count, the sequences, the last signal and the monitor's hits, flap count and next sequence stay in their ranges; and the
counters stay in canonical form (log 21), none above 4,294,967,295 (R49, R50, R58, R117, R132, R133, R135, R156;
00_scope.md, E). -/
def Obligations.CountsStayInTheirBounds : Prop :=
  KeptByEveryStep QueuesBounded ∧ KeptByEveryStep CountsInRange ∧ KeptByEveryStep CountersWf

/-- The service mode is always the one that R104's table gives, the lamp always R114's, and the fibre-out mark always
R108's condition; the allowance ceiling is always the one that R166's table gives; and the pool-low mark always says
whether the free count is below the reserve floor (R54). -/
def Obligations.DerivedStateStaysInAgreement : Prop :=
  KeptByEveryStep ServiceAgrees ∧ KeptByEveryStep CeilingAgrees ∧ KeptByEveryStep MarkAgrees

/-! ## Sums, checks and codes -/

/-- The bucket of a key image (R23): the words are added in turn with the end-around carry, from 0; the bucket is the low
eight bits of the sum, which is not complemented; and a non-IP key's bucket is its ethertype's low byte. -/
def Obligations.BucketIsTheOnesComplementFold : Prop :=
  onesSum [] = 0
    ∧ (∀ (image : Bytes) (a b : Byte), image.length % 2 = 0 →
        onesSum (image ++ [a, b]) = onesAdd (onesSum image) (a.toNat * 256 + b.toNat))
    ∧ (∀ a b : Nat, a < 65536 → b < 65536 →
        onesAdd a b = if a + b < 65536 then a + b else (a + b) % 65536 + 1)
    ∧ (∀ image : Bytes, onesSum image < 65536 ∧ bucketOf image = onesSum image % 256)
    ∧ (∀ high low : Byte, bucketOf [0, 0, high, low] = low.toNat)
    ∧ ∀ frame : Bytes,
        (keyImage (readFields frame)).length =
          match (readFields frame).ip with
          | none => 4
          | some header => if header.kind = .ipv4 then 16 else 40

/-- The payload check (R80): the part sends the complement of the payload's ones-complement sum, 0xFFFF for an empty
payload; a payload received with its own check holds; and no payload with one byte changed holds under the old check. -/
def Obligations.PayloadCheckFindsAChangedByte : Prop :=
  payloadCheck [] = 0xFFFF
    ∧ (∀ payload : Bytes, payloadCheck payload = 65535 - onesSum payload
        ∧ payloadCheckHolds payload (payloadCheck payload) = true)
    ∧ ∀ (payload : Bytes) (i : Nat) (old new : Byte), payload[i]? = some old → new ≠ old →
        payloadCheckHolds (payload.set i new) (payloadCheck payload) = false

/-- The header check byte of every record that the part sends (R78). -/
def Obligations.HeaderCheckByteIsRight : Prop :=
  headerCodes = (List.range 32).filter (fun v => !([0, 1, 2, 4, 8, 16, 30, 31].contains v))
    ∧ (∀ header : BitVec 24,
        headerCheck header < 256
          ∧ (∀ j < 5, (headerCheck header).testBit j = parityOfCodes header j)
          ∧ (headerCheck header).testBit 5 = false ∧ (headerCheck header).testBit 6 = false
          ∧ (onesCount 24 header.toNat + onesCount 5 (headerCheck header) + (headerCheck header) / 128) % 2 = 0)
    ∧ headerCheck 0 = 0
    ∧ ∀ (kind : Nat) (payload : Bytes),
        (recordBytes kind payload)[3]? = some (BitVec.ofNat 8 (headerCheck (headerOf kind payload.length)))

/-- Every single inverted bit of a header and its check byte is corrected, and every two inverted bits are found out
(R79). Bits 0 to 23 are the header's; bits 24 to 28 stand for check bits 0 to 4, and bit 29 for check bit 7. Check bits
5 and 6 take no part. -/
def Obligations.HeaderErrorsAreCorrected : Prop :=
  let headerPart (i : Nat) : BitVec 24 := if i < 24 then 1#24 <<< i else 0
  let checkPart (i : Nat) : Nat := if i < 24 then 0 else if i < 29 then 2 ^ (i - 24) else 128
  ∀ header : BitVec 24,
    decodeHeader header (headerCheck header) = .good header
      ∧ (∀ i < 30, decodeHeader (header ^^^ headerPart i) (headerCheck header ^^^ checkPart i) = .corrected header)
      ∧ (∀ i j, i < j → j < 30 →
          decodeHeader (header ^^^ headerPart i ^^^ headerPart j)
            (headerCheck header ^^^ checkPart i ^^^ checkPart j) = .error)
      ∧ ∀ check < 256, decodeHeader header (check &&& 0x9F) = decodeHeader header check

/-- A record as the part writes records reads back whole by the steps of R81, for every kind code and every payload of at
most 1664 bytes: its kind and its payload are found, and a longer one is found too long (R77, R80, R81). -/
def Obligations.RecordsReadBack : Prop :=
  ∀ (kind : Nat) (payload : Bytes), kind < 256 → payload.length < 65536 →
    judgeRecord (recordBytes kind payload) =
      if 1664 < payload.length then .overLength false
      else if kind = 0x81 then .data false payload
      else if kind = 0x82 then .status false payload
      else if kind = 0x83 then .grant false payload
      else .unknownKind false payload.length

/-- The new estimate lies between the old one and the sample, a fall is by 1 at the least, a shift of 0 takes the sample
whole, and the first sample is taken whole (R134, R135). -/
def Obligations.EstimateMovesTowardTheSample : Prop :=
  ∀ e sample rise fall : Nat, e ≤ 262143 → sample ≤ 262143 →
    newEstimate false e sample rise fall = sample
      ∧ (e ≤ sample → e ≤ newEstimate true e sample rise fall ∧ newEstimate true e sample rise fall ≤ sample
          ∧ newEstimate true e sample rise fall = e + (sample - e) / 2 ^ rise)
      ∧ (sample < e → sample ≤ newEstimate true e sample rise fall ∧ newEstimate true e sample rise fall < e
          ∧ (e - newEstimate true e sample rise fall - 1) * 2 ^ fall < e - sample
          ∧ e - sample ≤ (e - newEstimate true e sample rise fall) * 2 ^ fall)
      ∧ newEstimate true e sample 0 0 = sample

/-- A length fix-up adds the inner length to the 16-bit value at its offset, modulo 65536, and changes no other byte; A is
applied first and B second, each to the bytes as they then stand (R154). -/
def Obligations.LengthFixupsAddTheInnerLength : Prop :=
  (∀ (o inner : Nat) (work : Bytes), o + 2 ≤ work.length →
      (lengthFix (some o) inner work).length = work.length
        ∧ field o 2 (lengthFix (some o) inner work) = (field o 2 work + inner) % 65536
        ∧ ∀ j, j < o ∨ o + 2 ≤ j → (lengthFix (some o) inner work)[j]? = work[j]?)
    ∧ (∀ (inner : Nat) (work : Bytes), lengthFix none inner work = work)
    ∧ ∀ (t : TunnelRecord) (inner : Nat),
        fixedTemplate t inner = checksumFix t inner (lengthFix t.fixB inner (lengthFix t.fixA inner (templateBytes t)))

/-- The checksum fix-up writes the complement of the ones-complement sum of R155's three terms at its offset and changes no
other byte; with fix-up A absent it changes nothing. The new checksum and the new length stand to each other as the old
ones did, modulo 65535. It comes after both length fix-ups (R155). -/
def Obligations.ChecksumFixupFollowsTheLength : Prop :=
  (∀ (t : TunnelRecord) (a o inner : Nat) (work : Bytes), t.fixA = some a → t.fixChecksum = some o →
      o + 2 ≤ work.length →
      let m := field a 2 (templateBytes t)
      let m' := (m + inner) % 65536
      let hc := field o 2 work
      let fixed := checksumFix t inner work
      fixed.length = work.length
        ∧ field o 2 fixed = onesNot (onesAdd (onesAdd (onesNot hc) (onesNot m)) m')
        ∧ (field o 2 fixed + m') % 65535 = (hc + m) % 65535
        ∧ ∀ j, j < o ∨ o + 2 ≤ j → fixed[j]? = work[j]?)
    ∧ (∀ (t : TunnelRecord) (inner : Nat) (work : Bytes), t.fixA = none ∨ t.fixChecksum = none →
        checksumFix t inner work = work)
    ∧ ∀ (t : TunnelRecord) (inner : Nat),
        fixedTemplate t inner = checksumFix t inner (lengthFix t.fixB inner (lengthFix t.fixA inner (templateBytes t)))

/-- The payload of an upstream DATA record: the template with its fix-ups, the eight bytes of the carrier header, and the
frame, as long together as the carrier length (R153). -/
def Obligations.WrappedFramesCarryTheirHeader : Prop :=
  ∀ (t : TunnelRecord) (sequence : Nat) (f : UpFrame) (c : TrafficClass), t.inRange → sequence < 65536 →
    f.cls = some c → f.data.length ≤ 1536 →
    let n := t.templateLength
    let p := wrapFrame t sequence f
    p.length = carrierLength t f.data.length
      ∧ p.take n = fixedTemplate t (8 + f.data.length)
      ∧ field n 1 p = 1 ∧ field (n + 1) 1 p = c.val ∧ field (n + 2) 2 p = t.upstreamId
      ∧ field (n + 4) 2 p = sequence ∧ field (n + 6) 2 p = 8 + f.data.length ∧ p.drop (n + 8) = f.data

/-! ## The Fibre Path Monitor -/

/-- A lost light stops probing and takes the fibre DOWN: from UP or SUSPECT as a flap, which raises the flap count and sets
the hold-down deadline by it, from RECOVERING as a relapse, which restarts the deadline at the present flap count (R60,
R68, R69). Of the part of the state that the end of an event leaves alone nothing else changes; while service has not
begun nothing else changes at all but the DOWN-entries counter and the cause FIBRE. The model's choices: with the line
active already nothing changes (log 5), and a probe already at the Fibre port is left there (log 10). -/
def Obligations.LostLightTakesTheFibreDown : Prop :=
  ∀ (t : Reading) (s : State),
    let now := max s.now t
    let flaps := min (s.monitor.flapCount + 1) 15
    let stopped := { s.monitor with outstanding := none, nextProbe := none }
    let down := { stopped with state := FibreState.down, hits := 0, calmStart := none }
    let monitor := match s.monitor.state with
      | .up | .suspect =>
        { down with
          misses := 0, flapCount := flaps, deadline := some (now + s.probe.baseHoldDown * 2 ^ min flaps 4 * 1000) }
      | .recovering =>
        { down with deadline := some (now + s.probe.baseHoldDown * 2 ^ min s.monitor.flapCount 4 * 1000) }
      | .down => stopped
    (s.lightLost = true → exec (.lightLostActive t) s = .next (s.startAt t))
      ∧ (s.lightLost = false → Answers (.lightLostActive t) s fun u =>
          u.kept = { s.kept with now := now, lightLost := true, monitor := monitor })
      ∧ (s.lightLost = false → s.monitor.state = .down →
          exec (.lightLostActive t) s = .next { s.startAt t with lightLost := true, monitor := monitor })
      ∧ (s.lightLost = false → s.monitor.state ≠ .down → s.steering.begun = false → ServiceAgrees s →
          LeadsTo (.lightLostActive t) s
            { s.startAt t with
              lightLost := true
              monitor := monitor
              notices := { s.notices with causes := s.notices.causes.add .fibre }
              counters := (s.bump ctrDownEntries).counters })

/-- A light that returns restarts probing with a probe instant at once, or, with the probe destination zero, counts as one
hit, which makes a DOWN fibre RECOVERING and, with the hold-down deadline passed, UP (R61, R62, R70). The model's choices:
with the line inactive already nothing changes (log 5), and in UP the deadline is absent (log 14). -/
def Obligations.ReturningLightStartsRecovery : Prop :=
  ∀ (t : Reading) (s : State),
    let now := max s.now t
    (s.lightLost = false → exec (.lightLostInactive t) s = .next (s.startAt t))
      ∧ (s.lightLost = true → s.probe.destination ≠ 0 → s.monitor.outstanding = none →
          Answers (.lightLostInactive t) s fun u =>
            u.kept = { s.kept with
              now := now
              lightLost := false
              monitor := { s.monitor with
                outstanding := some { sequence := s.monitor.nextSequence, hit := false }
                nextSequence := (s.monitor.nextSequence + 1) % 65536
                nextProbe := some (now + s.probe.interval * 100) } })
      ∧ (s.lightLost = true → s.probe.destination = 0 → s.monitor.state = .down → ∀ d, s.monitor.deadline = some d →
          Answers (.lightLostInactive t) s fun u =>
            u.kept = { s.kept with
              now := now
              lightLost := false
              monitor :=
                if d ≤ now then
                  { s.monitor with
                    state := .up, misses := 0, hits := 0, deadline := none, calmStart := some now }
                else { s.monitor with state := .recovering, hits := 1 } })

/-- At a probe instant the outstanding probe, if unanswered, is a miss, which acts by R67 and R69; then a probe with the
next sequence becomes the outstanding one and the next instant falls one interval later (R62, R66 to R69). The probe is
handed to the Fibre port, where it begins at once if the port is idle, counted as sent, and otherwise waits in place of one
still waiting (R46, R63); its bytes are those that `probeFrame` builds by R63. With nothing to judge nothing else changes.
The model's choices: with no instant set nothing changes, and an instant is taken no earlier than its deadline (log 5). -/
def Obligations.ProbeInstantJudgesAndIssues : Prop :=
  (∀ (t r : Reading) (s : State), s.monitor.nextProbe = some r →
     let now := max (max s.now t) r
     let flaps := min (s.monitor.flapCount + 1) 15
     let flapped := { s.monitor with
       state := FibreState.down, hits := 0, misses := 0, calmStart := none, flapCount := flaps,
       deadline := some (now + s.probe.baseHoldDown * 2 ^ min flaps 4 * 1000) }
     let missed := match s.monitor.state with
       | .up => if s.probe.missLimit ≤ 1 then flapped else { s.monitor with state := .suspect, misses := 1 }
       | .suspect =>
         if s.probe.missLimit ≤ s.monitor.misses + 1 then flapped
         else { s.monitor with misses := s.monitor.misses + 1 }
       | .down => s.monitor
       | .recovering =>
         { s.monitor with
           state := .down, hits := 0, calmStart := none,
           deadline := some (now + s.probe.baseHoldDown * 2 ^ min s.monitor.flapCount 4 * 1000) }
     let judged := if ∃ o, s.monitor.outstanding = some o ∧ o.hit = false then missed else s.monitor
     Answers (.probeInstant t) s fun u =>
       u.kept = { s.kept with
         now := now
         monitor := { judged with
           outstanding := some { sequence := s.monitor.nextSequence, hit := false }
           nextSequence := (s.monitor.nextSequence + 1) % 65536
           nextProbe := some (r + s.probe.interval * 100) } })
    ∧ ∀ (t : Reading) (s : State),
        let n := s.monitor.nextSequence
        let probe := probeFrame s.probe.destination s.station.address s.probe.etherType s.probe.token n
        (s.monitor.nextProbe = none → exec (.probeInstant t) s = .next (s.startAt t))
          ∧ ∀ r, s.monitor.nextProbe = some r → (∀ o, s.monitor.outstanding = some o → o.hit = true) →
            let base := { s.startAt t with
              now := max (max s.now t) r
              monitor := { s.monitor with
                outstanding := some { sequence := n, hit := false }
                nextSequence := (n + 1) % 65536
                nextProbe := some (r + s.probe.interval * 100) } }
            (s.fibre.sending = none →
              exec (.probeInstant t) s = .next
                { base with
                  fibre := { s.fibre with waitingProbe := none, sending := some (.probe probe) }
                  counters := (s.bump ctrProbesSent).counters })
            ∧ (s.fibre.sending ≠ none →
              exec (.probeInstant t) s = .next { base with fibre := { s.fibre with waitingProbe := some probe } })

/-- When the hold-down deadline passes, a RECOVERING fibre becomes UP if its hits have reached the restore count or probing
is stopped; in any other case nothing changes (R70). At the end of a calm period the flap count falls by 1, or stays at 0,
and the next period starts at that moment; nothing else changes (R72). The model's choices: with no deadline or no calm
start nothing changes, and neither is taken before its time (log 5); in UP the deadline is absent (log 14). -/
def Obligations.MonitorDeadlinesAct : Prop :=
  (∀ (t : Reading) (s : State),
     (s.monitor.deadline = none → exec (.holdDownDeadline t) s = .next (s.startAt t))
       ∧ ∀ d, s.monitor.deadline = some d →
         let now := max (max s.now t) d
         (s.monitor.state = .recovering → s.probe.restoreCount ≤ s.monitor.hits ∨ s.probingRuns = false →
           Answers (.holdDownDeadline t) s fun u =>
             u.kept = { s.kept with
               now := now
               monitor := { s.monitor with
                 state := .up, misses := 0, hits := 0, deadline := none, calmStart := some now } })
         ∧ (s.monitor.state ≠ .recovering ∨ (s.monitor.hits < s.probe.restoreCount ∧ s.probingRuns = true) →
           exec (.holdDownDeadline t) s = .next { s.startAt t with now := now }))
    ∧ ∀ (t : Reading) (s : State),
        (s.monitor.calmStart = none → exec (.calmPeriodEnd t) s = .next (s.startAt t))
          ∧ ∀ c, s.monitor.calmStart = some c →
            let finish := c + s.probe.calmPeriod * 60000
            exec (.calmPeriodEnd t) s = .next
              { s.startAt t with
                now := max (max s.now t) finish
                monitor := { s.monitor with flapCount := s.monitor.flapCount - 1, calmStart := some finish } }

/-- A probe reply that carries the outstanding probe's sequence, the first to do so, is a hit and acts on the fibre state by
R67, R69 and R70; any other probe reply is late and leaves the monitor as it stands. Either way the frame is consumed
(R64, R65). -/
def Obligations.ProbeRepliesAreJudged : Prop :=
  ∀ (t : Reading) (data : Bytes) (s : State), s.fibreAssembly = { cells := cellsFor data.length, ignoring := false } →
    60 ≤ data.length → s.isProbeReply data = true →
    let now := max s.now t
    let hits := min (s.monitor.hits + 1) 15
    let passed := ∃ d, s.monitor.deadline = some d ∧ d ≤ now
    let up := { s.monitor with state := FibreState.up, misses := 0, hits := 0, deadline := none, calmStart := some now }
    let acted := match s.monitor.state with
      | .up => s.monitor
      | .suspect => { s.monitor with state := .up, misses := 0 }
      | .down =>
        if passed ∧ s.probe.restoreCount ≤ 1 then up else { s.monitor with state := .recovering, hits := 1 }
      | .recovering => if passed ∧ s.probe.restoreCount ≤ hits then up else { s.monitor with hits := hits }
    (∀ o, s.monitor.outstanding = some o → o.hit = false → field 30 2 data = o.sequence →
      Answers (.fibreFrameReceived t data true) s fun u =>
        u.kept = { s.kept with
          now := now
          fibreAssembly := { cells := 0, ignoring := false }
          monitor := { acted with outstanding := some { o with hit := true } } })
    ∧ ((∀ o, s.monitor.outstanding = some o → o.hit = true ∨ field 30 2 data ≠ o.sequence) →
      LeadsTo (.fibreFrameReceived t data true) s
        (State.bump
          (State.returnCells
            { s.startAt t with fibreAssembly := { cells := 0, ignoring := false } } (cellsFor data.length))
          ctrLateReplies).undue)

/-! ## The ports and the pool -/

/-- A cell taken on the Premises port joins the arriving frame; a frame that needs one with none free is discarded for
shortage, and one that needs a thirteenth for its length, its cells back in the pool and the rest of it ignored. The first
cell ends the ignoring of the frame before (R44, R54). On the Fibre port, at the fibre-downstream tail, a frame is refused
with no cell free or with the downstream occupancy at its limit (R51). A record whose header passes its check and gives at
most 1664 bytes takes the cells its payload needs into the modem receive assembly, or is discarded for shortage, its cells
back in the pool and the rest of it skipped; a corrected header is counted once (R52, R79). The model's choices: a cell out
of turn, or of a record that needs none or gave its cells back at link loss, is no event (log 5, log 6, log 30), and
shortage and the limit come before the thirteenth cell (log 11). -/
def Obligations.ArrivingFramesTakeCells : Prop :=
  (∀ (t : Reading) (n : Nat) (s : State),
     let ready := s.premisesAssembly.cells = n ∧ (n = 0 ∨ s.premisesAssembly.ignoring = false)
     let dropped (counter : Nat) : State :=
       State.undue (State.returnCells
         (State.bump { s.startAt t with premisesAssembly := { cells := 0, ignoring := true } } counter) n)
     (ready → 0 < s.pool.free → n < 12 →
       LeadsTo (.premisesCellTake t n) s
         (State.undue (State.poolTest { s.startAt t with
           premisesAssembly := { cells := n + 1, ignoring := false }, pool := { s.pool with free := s.pool.free - 1 } })))
     ∧ (ready → s.pool.free = 0 → LeadsTo (.premisesCellTake t n) s (dropped ctrPremisesShortage))
     ∧ (ready → 0 < s.pool.free → 12 ≤ n → LeadsTo (.premisesCellTake t n) s (dropped ctrOverLength))
     ∧ (¬ready → exec (.premisesCellTake t n) s = .next { s.startAt t with
         premisesAssembly := { s.premisesAssembly with ignoring := s.premisesAssembly.ignoring && decide (n ≠ 0) } }))
    ∧ (∀ (t : Reading) (n : Nat) (s : State),
        let ready := s.fibreAssembly.cells = n ∧ (n = 0 ∨ s.fibreAssembly.ignoring = false)
        let occupancy := byteCells s.downstream.fibre + byteCells s.downstream.radio + s.fibreAssembly.cells
        let dropped (counter : Nat) : State :=
          State.undue (State.returnCells
            (State.bump { s.startAt t with fibreAssembly := { cells := 0, ignoring := true } } counter) n)
        (ready → 0 < s.pool.free → occupancy < s.station.downstreamLimit → n < 12 →
          LeadsTo (.fibreCellTake t n) s
            (State.undue (State.poolTest { s.startAt t with
              fibreAssembly := { cells := n + 1, ignoring := false }, pool := { s.pool with free := s.pool.free - 1 } })))
        ∧ (ready → s.pool.free = 0 ∨ s.station.downstreamLimit ≤ occupancy →
          LeadsTo (.fibreCellTake t n) s (dropped ctrFibreRefused))
        ∧ (ready → 0 < s.pool.free → occupancy < s.station.downstreamLimit → 12 ≤ n →
          LeadsTo (.fibreCellTake t n) s (dropped ctrOverLength))
        ∧ (¬ready → exec (.fibreCellTake t n) s = .next { s.startAt t with
            fibreAssembly := { s.fibreAssembly with ignoring := s.fibreAssembly.ignoring && decide (n ≠ 0) } }))
    ∧ ∀ (t : Reading) (head : Bytes) (n : Nat) (header : BitVec 24) (s : State),
        let a : ModemAssembly :=
          if n = 0 then
            { s.link.assembly with
              headCounted := s.link.assembly.headCounted && !s.link.assembly.released, skipping := false, released := false }
          else s.link.assembly
        let ready := a.cells = n ∧ a.skipping = false ∧ a.released = false
        let judged := decodeHeader (BitVec.ofNat 24 (field 0 3 head)) (field 3 1 head)
        let length := header.toNat % 65536
        let passed := { s.startAt t with link := { s.link with assembly := a } }
        let takes (corrected : Bool) : Prop :=
          let first := corrected && !a.headCounted
          let counted (assembly : ModemAssembly) : State :=
            let e := { s.startAt t with link := { s.link with assembly := assembly } }
            if first then State.linkError (e.bump ctrHeadersCorrected) .corrected else e
          (0 < s.pool.free → LeadsTo (.modemCellTake t head n) s
            (State.undue (State.poolTest
              { counted { cells := n + 1, headCounted := a.headCounted || corrected, skipping := false } with
                pool := { s.pool with free := s.pool.free - 1 } })))
          ∧ (s.pool.free = 0 → LeadsTo (.modemCellTake t head n) s
            (State.undue (State.returnCells
              ((counted { cells := 0, headCounted := false, skipping := true }).bump ctrModemShortage) n)))
        (∀ corrected, judged = (if corrected then .corrected header else .good header) →
          length ≤ 1664 → 128 * n < length → ready → takes corrected)
        ∧ (¬ready → exec (.modemCellTake t head n) s = .next passed)
        ∧ (judged = .error ∨ ((judged = .good header ∨ judged = .corrected header) ∧ 1664 < length) →
          exec (.modemCellTake t head n) s = .next passed)

/-- A frame that ends on the Premises port in whole cells is discarded if it is shorter than 60 bytes or its check sequence
is bad; a control frame joins the control queue or is dropped at a full one, in every mode; any other frame is dropped in
HOLD, its cells back in the pool (R44, R49, R102, R170). In PASS it joins the tail of the fibre egress queue, without class
or index, if it passes the admission tests as level 7, and the port begins what it may; a refused one is an unclassified
discard (R45, R46, R101). That a frame both too short and with a bad check sequence counts as too short is the model's
choice (log 11). -/
def Obligations.PremisesFramesAreDispatched : Prop :=
  (∀ (t : Reading) (data : Bytes) (good : Bool) (s : State),
     s.premisesAssembly = { cells := cellsFor data.length, ignoring := false } →
     let e := { s.startAt t with premisesAssembly := { cells := 0, ignoring := false } }
     let drop (s : State) : State := State.undue (State.returnCells s (cellsFor data.length))
     (data.length < 60 → LeadsTo (.premisesFrameReceived t data good) s (drop (e.bump ctrUnderLength)))
     ∧ (60 ≤ data.length → good = false →
       LeadsTo (.premisesFrameReceived t data good) s (drop (e.bump ctrFrameCheck)))
     ∧ (60 ≤ data.length → good = true → s.isControl data = true →
       (s.control.queue.length < 4 → exec (.premisesFrameReceived t data good) s = .next
         { e with control := { s.control with queue := s.control.queue ++ [data] } })
       ∧ (4 ≤ s.control.queue.length → LeadsTo (.premisesFrameReceived t data good) s
         (drop (State.bump
           { e with control := { s.control with errors := { s.control.errors with queueFull := true } } }
           ctrControlQueueFull))))
     ∧ (60 ≤ data.length → good = true → s.isControl data = false → s.service.mode = .hold →
       LeadsTo (.premisesFrameReceived t data good) s (drop (e.bump ctrHoldUpstream))))
    ∧ ∀ (t : Reading) (data : Bytes) (s : State),
        s.premisesAssembly = { cells := cellsFor data.length, ignoring := false } → 60 ≤ data.length →
        s.isControl data = false → s.service.mode = .pass →
        let k := cellsFor data.length
        let f : UpFrame := { data := data, cls := none, arrival := max s.now t, flow := none }
        let e := { s.startAt t with premisesAssembly := { cells := 0, ignoring := false } }
        let admitted := s.fibreOccupancy + k ≤ s.station.fibreLimit ∧ s.station.reserveFloor + k ≤ s.pool.free
        (admitted → exec (.premisesFrameReceived t data true) s = .next
          (State.beginFibre { e with fibre := { s.fibre with queue := s.fibre.queue ++ [f] } }))
        ∧ (¬admitted → LeadsTo (.premisesFrameReceived t data true) s
          (State.undue (State.returnCells (e.bump ctrUnclassified) k)))

/-- A frame from the Fibre port that is no probe reply is dropped in HOLD, and in every other mode stands at the
fibre-downstream tail, where an idle Premises port begins what the arbiter chooses; one that is too short or has a bad
check sequence is discarded (R51, R53, R101, R102, R113). The model's choices: a frame that carries the probe ethertype and
the token while the light is lost is counted as a late reply and goes on (R60, R64, log 26), and a frame both too short and
with a bad check sequence counts as too short (log 11). -/
def Obligations.FibreFramesGoDownstream : Prop :=
  ∀ (t : Reading) (data : Bytes) (good : Bool) (s : State),
    s.fibreAssembly = { cells := cellsFor data.length, ignoring := false } →
    let e := { s.startAt t with fibreAssembly := { cells := 0, ignoring := false } }
    let late := s.lightLost = true ∧ s.probe.destination ≠ 0 ∧ field 12 2 data = s.probe.etherType
      ∧ field 14 16 data = s.probe.token.toNat
    let judged := if late then e.bump ctrLateReplies else e
    let drop (s : State) : State := State.undue (State.returnCells s (cellsFor data.length))
    (data.length < 60 → LeadsTo (.fibreFrameReceived t data good) s (drop (e.bump ctrUnderLength)))
    ∧ (60 ≤ data.length → good = false → LeadsTo (.fibreFrameReceived t data good) s (drop (e.bump ctrFrameCheck)))
    ∧ (60 ≤ data.length → good = true → s.isProbeReply data = false → s.service.mode = .hold →
      LeadsTo (.fibreFrameReceived t data good) s (drop (judged.bump ctrHoldDownstream)))
    ∧ (60 ≤ data.length → good = true → s.isProbeReply data = false → s.service.mode ≠ .hold →
      exec (.fibreFrameReceived t data good) s = .next
        (State.beginPremises { judged with downstream := { s.downstream with fibre := s.downstream.fibre ++ [data] } }))

/-- The frame that the premises egress arbiter chooses for an idle port, and the last-served mark after it (R53). When a
transmission ends on the Premises port its frame leaves the head of its FIFO, its cells return, and the arbiter begins the
next (R50, R53). With the port idle nothing changes, which is the model's choice (log 5). -/
def Obligations.ArbiterServesByItsTable : Prop :=
  (∀ s : State, s.egress.sending = none →
     let begins (source : PremisesSource) (mark : Uplink) : Prop :=
       s.beginPremises = { s with egress := { s.egress with sending := some source, lastServed := mark } }
     (s.egress.priority ≠ [] → begins .priority s.egress.lastServed)
     ∧ (s.egress.priority = [] → s.downstream.fibre ≠ [] → s.downstream.radio = [] → begins .fibre .fibre)
     ∧ (s.egress.priority = [] → s.downstream.fibre = [] → s.downstream.radio ≠ [] → begins .radio .radio)
     ∧ (s.egress.priority = [] → s.downstream.fibre ≠ [] → s.downstream.radio ≠ [] → s.egress.lastServed = .radio →
       begins .fibre .fibre)
     ∧ (s.egress.priority = [] → s.downstream.fibre ≠ [] → s.downstream.radio ≠ [] → s.egress.lastServed = .fibre →
       begins .radio .radio)
     ∧ (s.egress.priority = [] → s.downstream.fibre = [] → s.downstream.radio = [] → s.beginPremises = s))
    ∧ ∀ (t : Reading) (s : State),
        let idle := { s.startAt t with egress := { s.egress with sending := none } }
        let ends (e : State) (frame : Bytes) : Prop :=
          LeadsTo (.premisesTransmitEnd t) s (State.undue (State.beginPremises (State.returnCells e (cellsFor frame.length))))
        (s.egress.sending = none → exec (.premisesTransmitEnd t) s = .next (s.startAt t))
        ∧ (∀ frame rest, s.egress.sending = some .priority → s.egress.priority = frame :: rest →
            ends { idle with egress := { idle.egress with priority := rest } } frame)
        ∧ (∀ frame rest, s.egress.sending = some .fibre → s.downstream.fibre = frame :: rest →
            ends { idle with downstream := { s.downstream with fibre := rest } } frame)
        ∧ ∀ frame rest, s.egress.sending = some .radio → s.downstream.radio = frame :: rest →
            ends { idle with downstream := { s.downstream with radio := rest } } frame

/-- When a probe's transmission ends the port begins the next; when a frame's ends its cells return too, and with its flow
unlearned or ACTIVE nothing else changes but that flow's fibre pending count (R31, R46); with the port idle nothing changes,
which is the model's choice (log 5). An idle port begins a waiting probe first, in any fibre state; otherwise, in UP or SUSPECT, the head of the fibre
egress queue; a port that is sending is not interrupted (R46, R63). -/
def Obligations.FibreTransmissionsEnd : Prop :=
  (∀ (t : Reading) (s : State),
     let idle := { s.startAt t with fibre := { s.fibre with sending := none } }
     (s.fibre.sending = none → exec (.fibreTransmitEnd t) s = .next (s.startAt t))
     ∧ (∀ p, s.fibre.sending = some (.probe p) → exec (.fibreTransmitEnd t) s = .next idle.beginFibre)
     ∧ (∀ f, s.fibre.sending = some (.frame f) → f.flow = none →
         LeadsTo (.fibreTransmitEnd t) s (State.undue (State.beginFibre (State.returnCells idle f.cells))))
     ∧ ∀ f i e, s.fibre.sending = some (.frame f) → f.flow = some i → s.entry i = some e → e.move = none →
         LeadsTo (.fibreTransmitEnd t) s
           (State.undue (State.beginFibre
             ((State.returnCells idle f.cells).setEntry i { e with fibrePending := e.fibrePending - 1 }))))
    ∧ ∀ s : State,
        (s.fibre.sending ≠ none → s.beginFibre = s)
        ∧ (∀ p, s.fibre.sending = none → s.fibre.waitingProbe = some p →
            s.beginFibre = { s with
              fibre := { s.fibre with waitingProbe := none, sending := some (.probe p) }
              counters := (s.bump ctrProbesSent).counters })
        ∧ (∀ f rest, s.fibre.sending = none → s.fibre.waitingProbe = none → s.fibre.queue = f :: rest →
            s.monitor.state = .up ∨ s.monitor.state = .suspect →
            s.beginFibre = { s with fibre := { s.fibre with queue := rest, sending := some (.frame f) } })
        ∧ (s.fibre.waitingProbe = none →
            s.fibre.queue = [] ∨ s.monitor.state = .down ∨ s.monitor.state = .recovering → s.beginFibre = s)

/-! ## Flows -/

/-- A frame that hits an entry refreshes its last-seen and takes its class. In NORMAL, with a class that is not STICKY, it is
steered to FIBRE: an ACTIVE entry on FIBRE sends it there; one on RADIO without pending frames moves at once; one with
pending frames and a drain time begins to drain and holds the frame; a DRAINING entry toward FIBRE holds it; and one
toward RADIO without held frames is reversed (R25, R112, R118, R119, R121, R122, R127). -/
def Obligations.LearnedFramesFollowTheirEntry : Prop :=
  ∀ (t : Reading) (data : Bytes) (i : Nat) (entry : FlowEntry) (s : State), handled s data → s.service.mode = .normal →
    s.lookup (keyImage (readFields data)) = some i → s.entry i = some entry →
    (s.classEntry entry.cls).policy ≠ .sticky →
    let now := max s.now t
    let f : UpFrame := { data := data, cls := some entry.cls, arrival := now, flow := some i }
    let seen := { entry with lastSeen := now / 1000 % 4294967296 }
    let e := arrived s t data
    let drain := (s.classEntry entry.cls).drainTime
    let admits := fibreAdmits s f.cells (s.classEntry entry.cls).level
    let sent (entry : FlowEntry) (e : State) : Prop :=
      exec (.premisesFrameReceived t data true) s = .next
        (State.beginFibre ({ e with fibre := { s.fibre with queue := s.fibre.queue ++ [f] } }.setEntry i entry))
    (entry.move = none → entry.uplink = .fibre → admits →
      sent { seen with fibrePending := entry.fibrePending + 1 } e)
    ∧ (entry.move = none → entry.uplink = .radio → entry.radioPending = 0 → admits →
      sent { seen with uplink := .fibre, fibrePending := entry.fibrePending + 1 } (e.bump ctrImmediateMoves))
    ∧ (entry.move = none → entry.uplink = .radio → 0 < entry.radioPending → 0 < drain → s.held.length < 64 →
      exec (.premisesFrameReceived t data true) s = .next
        (State.setEntry { e.bump ctrDrainedMoves with held := s.held ++ [f] } i
          { seen with held := entry.held + 1, move := some { target := .fibre, deadline := now + drain, overdue := false } }))
    ∧ (∀ m, entry.move = some m → m.target = .fibre → s.held.length < 64 →
      exec (.premisesFrameReceived t data true) s = .next
        (State.setEntry { e with held := s.held ++ [f] } i { seen with held := entry.held + 1 }))
    ∧ (∀ m, entry.move = some m → m.target = .fibre → 64 ≤ s.held.length →
      LeadsTo (.premisesFrameReceived t data true) s
        (State.undue (State.returnCells ((e.setEntry i seen).bump (ctrDropHeldFull entry.cls)) f.cells)))
    ∧ (∀ m, entry.move = some m → m.target = .radio → entry.uplink = .fibre →
      s.held.filter (UpFrame.ofFlow i) = [] → admits →
      sent { seen with fibrePending := entry.fibrePending + 1, move := none } (e.bump ctrReversals))

/-- In FALLBACK and ISOLATED a frame that hits an ACTIVE entry on RADIO, of a class that is not FIBRE_ONLY, is steered to
RADIO if the class is admitted, and waits in its class queue while no bearer is open or can be opened; with the class not
admitted it is dropped, the entry refreshed. A FIBRE_ONLY frame with no fibre to take it is dropped (R110, R112). In READY
with no retry timer running the frame opens the bearer; in OPEN it waits for the staged slot or for credit, or a selection
follows; and LINGER returns to OPEN (R85, R89, R91, R143 to R145). -/
def Obligations.RadioFramesAreSteered : Prop :=
  ∀ (t : Reading) (data : Bytes) (i : Nat) (entry : FlowEntry) (s : State), handled s data → s.service.mode ≠ .normal →
    s.lookup (keyImage (readFields data)) = some i → s.entry i = some entry →
    let now := max s.now t
    let c := entry.cls
    let f : UpFrame := { data := data, cls := some c, arrival := now, flow := some i }
    let seen := { entry with lastSeen := now / 1000 % 4294967296 }
    let e := arrived s t data
    let policy := (s.classEntry c).policy
    let drops (counter : Nat) : Prop :=
      LeadsTo (.premisesFrameReceived t data true) s
        (State.undue (State.returnCells ((e.setEntry i seen).bump counter) f.cells))
    let joins := policy ≠ .fibreOnly ∧ s.admitted c = true ∧ entry.move = none ∧ entry.uplink = .radio
      ∧ radioAdmits s c f.cells ∧ ServiceAgrees s
    let joined := State.setEntry (State.setRadioQueue e c (s.radioQueue c ++ [f])) i
      { seen with radioPending := entry.radioPending + 1 }
    let unlimited := ∀ d, (s.classEntry d).sojournLimit = 0
    let reopened : Bearer :=
      { s.bearer with
        state := .opened, lingerTimer := if s.bearer.state = .linger then none else s.bearer.lingerTimer }
    (policy ≠ .fibreOnly → s.admitted c = true → entry.move = none → entry.uplink = .radio →
      s.bearer.state.carrying = false → (s.bearer.state = .ready → s.bearer.retryTimer ≠ none) →
      cellsOf (s.radioQueue c) + f.cells ≤ (s.classEntry c).queueLimit → f.cells ≤ s.pool.free →
      (s.classEntry c).level ≤ 1 ∨ s.station.reserveFloor + f.cells ≤ s.pool.free →
      exec (.premisesFrameReceived t data true) s = .next
        ((State.setRadioQueue e c (s.radioQueue c ++ [f])).setEntry i
          { seen with radioPending := entry.radioPending + 1 }))
    ∧ (policy ≠ .fibreOnly → s.admitted c = false → drops (ctrDropNotAdmitted c))
    ∧ (policy = .fibreOnly → s.station.force ≠ .radio ∨ s.monitor.state = .down ∨ s.monitor.state = .recovering →
      drops (ctrDropFibreOnly c))
    ∧ (joins → s.bearer.state = .ready → s.bearer.retryTimer = none →
      Answers (.premisesFrameReceived t data true) s fun u =>
        u.radioQueue c = s.radioQueue c ++ [f] ∧ u.flows = joined.flows
          ∧ u.bearer = { s.bearer with state := .opening, openTimer := some (now + s.radio.openTimeout * 1000) }
          ∧ u.sender =
              if s.link.up = true ∧ s.sender.transfer = none then
                { s.sender with
                  bearerSlot := none, transfer := some (.bearer .bearerOpen (bearerRecordBytes .bearerOpen)) }
              else { s.sender with bearerSlot := some .bearerOpen })
    ∧ (joins → s.bearer.state = .opened → s.sender.staged ≠ none ∨ (unlimited ∧ joined.chosen = none) →
      exec (.premisesFrameReceived t data true) s = .next joined)
    ∧ (joins → s.bearer.state = .linger → s.sender.staged = none → unlimited → joined.chosen = none →
      Answers (.premisesFrameReceived t data true) s fun u =>
        u.radioQueue c = s.radioQueue c ++ [f] ∧ u.flows = joined.flows ∧ u.bearer = reopened)
    ∧ ∀ d, joins → s.bearer.state.carrying = true → s.sender.staged = none → s.sender.transfer ≠ none → unlimited →
      joined.chosen = some d → Answers (.premisesFrameReceived t data true) s fun u =>
        u.sender = { s.sender with staged := (joined.radioQueue d).head? } ∧ u.radioQueue d = (joined.radioQueue d).tail
          ∧ u.flows = joined.flows ∧ u.bearer = reopened

/-- The moves of a learned flow. A STICKY frame keeps to RADIO in NORMAL while its entry is there, the radio state attached
and the class admitted, and in any other case its flow goes to FIBRE (R111). With the target RADIO an ACTIVE flow on FIBRE
moves at once with no frame pending, begins to drain with some, and further frames are held (R119, R121, R122). With drain
time 0 the waiting frames are discarded and the flow moves at once, or is overdue from the start behind a frame committed
to the wire (R120). A reversal sends the held frames, in order and before the new one, down the old path (R127). -/
def Obligations.FlowsMoveBetweenTheirUplinks : Prop :=
  ∀ (t : Reading) (data : Bytes) (i : Nat) (entry : FlowEntry) (s : State), handled s data →
    s.lookup (keyImage (readFields data)) = some i → s.entry i = some entry →
    let now := max s.now t
    let c := entry.cls
    let f : UpFrame := { data := data, cls := some c, arrival := now, flow := some i }
    let seen := { entry with lastSeen := now / 1000 % 4294967296 }
    let e := arrived s t data
    let policy := (s.classEntry c).policy
    let level := (s.classEntry c).level
    let drain := (s.classEntry c).drainTime
    let normal := s.service.mode = .normal
    let sticks := policy = .sticky ∧ entry.uplink = .radio ∧ s.bearer.state.attached = true ∧ s.admitted c = true
    let toRadio := (normal ∧ sticks) ∨ (¬normal ∧ policy ≠ .fibreOnly ∧ s.admitted c = true)
    let toFibre := (normal ∧ ¬sticks)
      ∨ (¬normal ∧ policy = .fibreOnly ∧ s.station.force = .radio ∧ (s.monitor.state = .up ∨ s.monitor.state = .suspect))
    let answers (post : State → Prop) : Prop := Answers (.premisesFrameReceived t data true) s post
    let onRadio (frames : List UpFrame) (entry : FlowEntry) (e : State) : Prop :=
      exec (.premisesFrameReceived t data true) s = .next
        ((State.setRadioQueue e c (s.radioQueue c ++ frames)).setEntry i entry)
    let onFibre (frames : List UpFrame) (entry : FlowEntry) (e : State) : Prop :=
      exec (.premisesFrameReceived t data true) s = .next
        (State.beginFibre ({ e with fibre := { s.fibre with queue := s.fibre.queue ++ frames } }.setEntry i entry))
    let held := s.held.filter (UpFrame.ofFlow i)
    let kept := { e.bump ctrReversals with held := s.held.filter fun g => !UpFrame.ofFlow i g }
    let roomy := ∀ g ∈ held ++ [f], g.cells ≤ s.pool.free ∧ (level ≤ 1 ∨ s.station.reserveFloor + g.cells ≤ s.pool.free)
    -- an ACTIVE entry whose uplink is the target, and one that moves at once
    (toRadio → entry.move = none → entry.uplink = .radio → radioQuiet s → radioAdmits s c f.cells →
      onRadio [f] { seen with radioPending := entry.radioPending + 1 } e)
    ∧ (toRadio → entry.move = none → entry.uplink = .fibre → entry.fibrePending = 0 → radioQuiet s →
      radioAdmits s c f.cells →
      onRadio [f] { seen with uplink := .radio, radioPending := entry.radioPending + 1 } (e.bump ctrImmediateMoves))
    ∧ (toFibre → entry.move = none → entry.uplink = .fibre → fibreAdmits s f.cells level →
      onFibre [f] { seen with fibrePending := entry.fibrePending + 1 } e)
    ∧ (toFibre → entry.move = none → entry.uplink = .radio → entry.radioPending = 0 → fibreAdmits s f.cells level →
      onFibre [f] { seen with uplink := .fibre, fibrePending := entry.fibrePending + 1 } (e.bump ctrImmediateMoves))
    -- a drain begins, and a frame that comes while it lasts is held
    ∧ (toRadio → entry.move = none → entry.uplink = .fibre → 0 < entry.fibrePending → 0 < drain → s.held.length < 64 →
      exec (.premisesFrameReceived t data true) s = .next
        (State.setEntry { e.bump ctrDrainedMoves with held := s.held ++ [f] } i
          { seen with held := entry.held + 1, move := some { target := .radio, deadline := now + drain, overdue := false } }))
    ∧ (∀ m, toRadio → entry.move = some m → m.target = .radio → s.held.length < 64 →
      exec (.premisesFrameReceived t data true) s = .next
        (State.setEntry { e with held := s.held ++ [f] } i { seen with held := entry.held + 1 }))
    -- drain time 0
    ∧ (toRadio → FlowsAccounted s → entry.move = none → entry.uplink = .fibre → 0 < entry.fibrePending → drain = 0 →
      (countOf i (sendingFrames s.fibre.sending) = 0 → answers fun u =>
        u.fibre.queue.filter (UpFrame.ofFlow i) = []
          ∧ ∃ e', u.entry i = some e' ∧ e'.uplink = .radio ∧ e'.move = none ∧ e'.fibrePending = 0 ∧ e'.held = 0)
      ∧ (countOf i (sendingFrames s.fibre.sending) ≠ 0 → s.held.length < 64 → answers fun u =>
        u.fibre.queue = s.fibre.queue.filter (fun g => !UpFrame.ofFlow i g) ∧ u.held = s.held ++ [f]
          ∧ u.entry i = some { seen with
              fibrePending := 1, held := 1, move := some { target := .radio, deadline := now, overdue := true } }))
    ∧ (toFibre → FlowsAccounted s → entry.move = none → entry.uplink = .radio → 0 < entry.radioPending → drain = 0 →
      (countOf i s.committedFrames = 0 → answers fun u =>
        (u.radioQueue c).filter (UpFrame.ofFlow i) = []
          ∧ ∃ e', u.entry i = some e' ∧ e'.uplink = .fibre ∧ e'.move = none ∧ e'.radioPending = 0 ∧ e'.held = 0)
      ∧ (countOf i s.committedFrames ≠ 0 → s.held.length < 64 → answers fun u =>
        u.radioQueue c = (s.radioQueue c).filter (fun g => !UpFrame.ofFlow i g) ∧ u.held = s.held ++ [f]
          ∧ u.entry i = some { seen with
              radioPending := countOf i s.committedFrames, held := 1
              move := some { target := .fibre, deadline := now, overdue := true } }))
    -- reversals
    ∧ (∀ m, toFibre → FlowsAccounted s → entry.move = some m → m.target = .radio →
      s.fibreOccupancy + cellsOf held + f.cells ≤ s.station.fibreLimit → roomy →
      onFibre (held ++ [f])
        { seen with fibrePending := entry.fibrePending + held.length + 1, held := 0, move := none } kept)
    ∧ ∀ m, toRadio → FlowsAccounted s → entry.move = some m → m.target = .fibre → radioQuiet s →
      cellsOf (s.radioQueue c) + cellsOf held + f.cells ≤ (s.classEntry c).queueLimit → roomy →
      onRadio (held ++ [f])
        { seen with radioPending := entry.radioPending + held.length + 1, held := 0, move := none } kept

/-- A frame whose key has no entry, with the table hold free, takes its class from the rules, or the default class where none
fits. In NORMAL, with the class's idle timeout above 0, its flow is learned on FIBRE in the lowest-numbered free way of
its bucket, or in the way of the entry that may be evicted; a frame of a class with idle timeout 0 travels unlearned
(R10, R26 to R29). While the table hold is held such a frame travels unlearned with the default class, steered as FOLLOW,
and no rule is consulted (R12, R26, R29). -/
def Obligations.UnknownKeysAreLearnedOrTravel : Prop :=
  (∀ (t : Reading) (data : Bytes) (s : State), handled s data → s.service.mode = .normal → s.control.hold = none →
     s.lookup (keyImage (readFields data)) = none →
     let now := max s.now t
     let image := keyImage (readFields data)
     let found := (arrived s t data).consult (readFields data)
     let c := found.1
     let k := cellsFor data.length
     let f (flow : Option Nat) : UpFrame := { data := data, cls := some c, arrival := now, flow := flow }
     let fresh (i : Nat) (e : State) : State :=
       State.setEntry { e.bump ctrLearned with fibre := { s.fibre with queue := s.fibre.queue ++ [f (some i)] } } i
         { key := image, cls := c, uplink := .fibre, lastSeen := now / 1000 % 4294967296, fibrePending := 1,
           radioPending := 0, held := 0, move := none }
     fibreAdmits s k (s.classEntry c).level →
     (∀ i, (s.classEntry c).idleTimeout ≠ 0 → s.freeWay image = some i →
       exec (.premisesFrameReceived t data true) s = .next (State.beginFibre (fresh i found.2)))
     ∧ (∀ i, (s.classEntry c).idleTimeout ≠ 0 → s.freeWay image = none → (s.startAt t).evictWay image = some i →
       exec (.premisesFrameReceived t data true) s = .next (State.beginFibre (fresh i (found.2.bump ctrEvicted))))
     ∧ ((s.classEntry c).idleTimeout = 0 →
       exec (.premisesFrameReceived t data true) s = .next
         (State.beginFibre { found.2.bump ctrUnlearned with
           fibre := { s.fibre with queue := s.fibre.queue ++ [f none] } })))
    ∧ ∀ (t : Reading) (data : Bytes) (s : State), handled s data → s.service.mode = .normal → s.control.hold ≠ none →
        s.lookup (keyImage (readFields data)) = none →
        fibreAdmits s (cellsFor data.length) (s.classEntry s.station.defaultClass).level →
        let f : UpFrame := { data := data, cls := some s.station.defaultClass, arrival := max s.now t, flow := none }
        exec (.premisesFrameReceived t data true) s = .next
          (State.beginFibre { (arrived s t data).bump ctrUnlearned with
            fibre := { s.fibre with queue := s.fibre.queue ++ [f] } })

/-- What the Classifier reads of a frame that is laid out field by field, tagged or not: the ethertype and VLAN priority
(R2), the fields of an accepted IPv4 or IPv6 header (R3, R4), its ports where the protocol calls for them, the packet is no
fragment and their bytes are there (R5), and the two kinds of header fault (R6). A rule fits where it is valid and each
present field fits by R9's table; a port range passes over a frame without ports. -/
def Obligations.HeaderFieldsAreReadAndTested : Prop :=
  (∀ (macs rest : Bytes) (tag : Option Nat), macs.length = 12 → (∀ v ∈ tag, v < 65536) →
     let tagBytes : Bytes := match tag with
       | some v => [0x81, 0x00] ++ beBytes 2 v
       | none => []
     let frame (etherType : Nat) (body : Bytes) : Bytes := macs ++ tagBytes ++ beBytes 2 etherType ++ body
     let read (etherType : Nat) (ip : Option IpHeader) (fault : Bool) : Fields :=
       { etherType := etherType, vlan := tag.map (· / 8192), ip := ip, fault := fault }
     let header (kind : KeyKind) (protocol : Byte) (dscp : Nat) (source dest : Bytes) (called : Bool) : IpHeader :=
       { kind := kind, protocol := protocol.toNat, dscp := dscp, source := source, dest := dest,
         ports := if called = true ∧ 4 ≤ rest.length then some (field 0 2 rest, field 2 2 rest) else none,
         shortPorts := called && decide (rest.length < 4) }
     let withPorts (protocol : Byte) : Bool := protocol == 6 || protocol == 17 || protocol == 132
     (∀ etherType < 65536, etherType ≠ 0x0800 → etherType ≠ 0x86DD → (tag = none → etherType ≠ 0x8100) →
       readFields (frame etherType rest) = read etherType none false)
     ∧ (∀ (words fragment : Nat) (service ttl protocol : Byte) (lengths check source dest options : Bytes),
       5 ≤ words → words < 16 → fragment < 65536 → lengths.length = 4 → check.length = 2 → source.length = 4 →
       dest.length = 4 → options.length + 20 = 4 * words →
       let called := withPorts protocol && decide (fragment % 16384 = 0)
       readFields (frame 0x0800 ([BitVec.ofNat 8 (64 + words), service] ++ lengths ++ beBytes 2 fragment ++ [ttl, protocol]
           ++ check ++ source ++ dest ++ options ++ rest)) =
         read 0x0800 (some (header .ipv4 protocol (service.toNat / 4) source dest called))
           (called && decide (rest.length < 4)))
     ∧ (∀ (traffic label : Nat) (protocol hops : Byte) (length source dest : Bytes),
       traffic < 256 → label < 1048576 → length.length = 2 → source.length = 16 → dest.length = 16 →
       let called := withPorts protocol
       readFields (frame 0x86DD (beBytes 4 (6 * 268435456 + traffic * 1048576 + label) ++ length ++ [protocol, hops]
           ++ source ++ dest ++ rest)) =
         read 0x86DD (some (header .ipv6 protocol (traffic / 4) source dest called))
           (called && decide (rest.length < 4)))
     ∧ (rest.length < 20 ∨ field 0 1 rest / 16 ≠ 4 ∨ field 0 1 rest % 16 < 5 ∨ rest.length < field 0 1 rest % 16 * 4 →
       readFields (frame 0x0800 rest) = read 0x0800 none true)
     ∧ (rest.length < 40 ∨ field 0 1 rest / 16 ≠ 6 → readFields (frame 0x86DD rest) = read 0x86DD none true))
    ∧ ∀ (r : Rule) (fields : Fields),
        let inRange (x : MatchRange) (v : Nat) : Prop := x.low ≤ v ∧ v ≤ x.high
        r.fits fields = true ↔
          r.valid = true ∧ (∀ v ∈ r.etherType, fields.etherType = v)
            ∧ (∀ v ∈ r.protocol, ∃ h ∈ fields.ip, h.protocol = v) ∧ (∀ x ∈ r.dscp, ∃ h ∈ fields.ip, inRange x h.dscp)
            ∧ (∀ x ∈ r.sourcePort, ∀ h ∈ fields.ip, ∀ p ∈ h.ports, inRange x p.1)
            ∧ (∀ x ∈ r.destPort, ∀ h ∈ fields.ip, ∀ p ∈ h.ports, inRange x p.2)
            ∧ (∀ x ∈ r.vlan, ∃ v ∈ fields.vlan, inRange x v)

/-- The lowest-indexed valid rule that fits gives the class, and its match count rises by 1; where none fits the class is the
default class, and the rule-miss counter rises by 1 (R10). -/
def Obligations.LowestFittingRuleDecides : Prop :=
  ∀ (fields : Fields) (s : State),
    (∀ i : Fin 64, s.rules[i].fits fields = true → (∀ j : Fin 64, j < i → s.rules[j].fits fields = false) →
      s.consult fields =
        (s.rules[i].result,
          { s with
            rules := s.rules.set i { s.rules[i] with matchCount := min (s.rules[i].matchCount + 1) 4294967295 } }))
    ∧ ((∀ i : Fin 64, s.rules[i].fits fields = false) →
      s.consult fields = (s.station.defaultClass, s.bump ctrRuleMiss))

/-- An aging visit removes an entry that is ACTIVE with all counts 0 and older than its class's idle timeout, and counts it;
any other entry stays (R22, R35). -/
def Obligations.AgingRemovesIdleEntries : Prop :=
  ∀ (t : Reading) (i : Nat) (s : State),
    let seconds := max s.now t / 1000 % 4294967296
    (s.entry i = none → exec (.agingVisit t i) s = .next (s.startAt t))
    ∧ ∀ e, s.entry i = some e →
      let age := (seconds + 4294967296 - e.lastSeen) % 4294967296
      let goes := e.move = none ∧ e.fibrePending = 0 ∧ e.radioPending = 0 ∧ e.held = 0
        ∧ (s.classEntry e.cls).idleTimeout < age
      (goes → exec (.agingVisit t i) s = .next (((s.startAt t).removeEntry i).bump ctrAged))
      ∧ (¬goes → exec (.agingVisit t i) s = .next (s.startAt t))

/-- When the last frame of a DRAINING flow leaves the fibre path, the move completes: the flow becomes ACTIVE on its target
and none of its frames stays on the held list (R34, R123). No frame joins the held list, and those of the other flows stay
in their order; one leaves only where released frames set off a selection whose sojourn discards complete its flow's move
(R48, R123, R143), so none does with the bearer not open or with no sojourn limit set. -/
def Obligations.LastFrameCompletesTheMove : Prop :=
  ∀ (t : Reading) (f : UpFrame) (i : Nat) (e : FlowEntry) (m : Move) (s : State), FlowsAccounted s → ServiceAgrees s →
    s.fibre.sending = some (.frame f) → f.flow = some i → s.entry i = some e → e.move = some m → e.uplink = .fibre →
    e.fibrePending = 1 →
    Answers (.fibreTransmitEnd t) s fun u =>
      let others := s.held.filter (fun g => !UpFrame.ofFlow i g)
      u.held.Sublist others
        ∧ (s.bearer.state.carrying = false ∨ (∀ c, (s.classEntry c).sojournLimit = 0) → u.held = others)
        ∧ ∃ e', u.entry i = some e' ∧ e'.uplink = .radio ∧ e'.move = none ∧ e'.held = 0 ∧ e'.fibrePending = 0
            ∧ e'.key = e.key ∧ e'.cls = e.cls

/-- When a drain deadline expires, the flow's frames still waiting on the old path are discarded; the move completes if none
is left there, and otherwise the flow is overdue (R125). The model's choices: the deadline is taken no earlier than it falls,
and for an overdue flow, an ACTIVE one or a free way the command changes nothing (log 5). -/
def Obligations.DrainDeadlineDiscardsWaitingFrames : Prop :=
  (∀ (t : Reading) (i : Nat) (e : FlowEntry) (m : Move) (s : State), FlowsAccounted s → s.entry i = some e →
    e.move = some m → m.overdue = false →
    Answers (.drainDeadlineExpiry t i) s fun u =>
      u.now = max (max s.now t) m.deadline
        ∧ (e.uplink = .fibre → u.fibre.queue.filter (UpFrame.ofFlow i) = [])
        ∧ (e.uplink = .radio → (u.radioQueue e.cls).filter (UpFrame.ofFlow i) = [])
        ∧ ∃ e', u.entry i = some e'
            ∧ (e.uplink = .fibre → sendingFrames s.fibre.sending = [] ∨ countOf i (sendingFrames s.fibre.sending) = 0 →
                e'.move = none ∧ e'.uplink = .radio)
            ∧ (e.uplink = .radio → countOf i s.committedFrames = 0 → e'.move = none ∧ e'.uplink = .fibre)
            ∧ (e.uplink = .fibre → countOf i (sendingFrames s.fibre.sending) ≠ 0 →
                e'.move = some { m with overdue := true } ∧ e'.uplink = .fibre ∧ e'.fibrePending = 1)
            ∧ (e.uplink = .radio → countOf i s.committedFrames ≠ 0 →
                e'.move = some { m with overdue := true } ∧ e'.uplink = .radio))
    ∧ ∀ (t : Reading) (i : Nat) (s : State), (∀ e m, s.entry i = some e → e.move = some m → m.overdue = true) →
        exec (.drainDeadlineExpiry t i) s = .next (s.startAt t)

/-- How waiting frames leave without being sent. A lost light that sets the fibre-out mark flushes the fibre egress queue,
cancels every move toward FIBRE, and completes the moves toward RADIO that wait for no frame in transmission; under force
FIBRE it flushes nothing (R46, R108, R109, R128). When the radio state leaves OPEN by a STATUS the staged frame returns to
the head of its queue, its length given back to its credit (R87), but that of an overdue flow is discarded, which may
complete the move (R126). At a selection the heads of every queue that have waited longer than their class allows are
discarded in turn (R48). -/
def Obligations.FramesLeaveUnsent : Prop :=
  (∀ (t : Reading) (s : State), ServiceAgrees s → s.lightLost = false →
     s.monitor.state = .up ∨ s.monitor.state = .suspect →
     (s.steering.begun = false ∨ s.station.force = .fibre → Answers (.lightLostActive t) s fun u =>
       u.fibre = s.fibre ∧ u.held = s.held ∧ u.flows = s.flows ∧ u.service.fibreOut = false)
     ∧ (s.steering.begun = true → s.station.force ≠ .fibre → FlowsAccounted s → CountersWf s →
       Answers (.lightLostActive t) s fun u =>
         u.service.fibreOut = true ∧ u.fibre = { s.fibre with queue := [] }
           ∧ (∀ c, u.counter (ctrFlushed c) =
               min (s.counter (ctrFlushed c) + (s.fibre.queue.filter fun f => f.cls = some c).length) 4294967295)
           ∧ u.counter ctrCancellations =
               min (s.counter ctrCancellations
                 + (s.flows.filter fun p => p.2.move.map (·.target) = some .fibre).length) 4294967295
           ∧ ∀ i e m, s.entry i = some e → e.move = some m →
               let ended := u.held.filter (UpFrame.ofFlow i) = []
                 ∧ ∃ e', u.entry i = some e' ∧ e'.uplink = .radio ∧ e'.move = none ∧ e'.held = 0 ∧ e'.fibrePending = 0
               (m.target = .fibre → ended)
               ∧ (m.target = .radio → countOf i (sendingFrames s.fibre.sending) = 0 → ended)
               ∧ (m.target = .radio → countOf i (sendingFrames s.fibre.sending) ≠ 0 →
                 u.entry i = some { e with fibrePending := 1 })))
    ∧ (∀ (t : Reading) (bytes p : Bytes) (f : UpFrame) (c : TrafficClass) (s : State),
        recordEnds s bytes (.status false p) 1 → statusContents p = true → BearerAgrees s → FlowsAccounted s →
        ServiceAgrees s → s.bearer.state = .opened → s.sender.staged = some f → f.cls = some c →
        field 0 1 p = 0 ∨ field 1 1 p ≠ 1 →
        let overdue (i : Nat) (e : FlowEntry) : Prop :=
          f.flow = some i ∧ s.entry i = some e ∧ e.uplink = .radio ∧ ∃ m, e.move = some m ∧ m.overdue = true
        let left (u : State) : Prop := u.sender.staged = none ∧ ∀ d, d ≠ c → u.radioQueue d = s.radioQueue d
        ((∀ i e, ¬overdue i e) → Answers (.statusRecord t bytes) s fun u =>
          left u ∧ u.radioQueue c = f :: s.radioQueue c ∧ u.flows = s.flows
            ∧ u.credit c =
                if field 0 1 p = 0 then 0 else min (s.credit c + f.data.length) ((s.classEntry c).burst * 128))
        ∧ ∀ i e, overdue i e → Answers (.statusRecord t bytes) s fun u =>
          left u ∧ u.radioQueue c = s.radioQueue c
            ∧ (e.radioPending ≠ 1 → u.held = s.held ∧ u.entry i = some { e with radioPending := e.radioPending - 1 })
            ∧ (e.radioPending = 1 → u.held.filter (UpFrame.ofFlow i) = []
              ∧ ∃ e', u.entry i = some e' ∧ e'.uplink = .fibre ∧ e'.move = none ∧ e'.held = 0 ∧ e'.radioPending = 0))
    ∧ ∀ (t : Reading) (s : State), FlowsAccounted s → CountersWf s → s.bearer.state.carrying = true →
        s.sender.staged = none → s.sender.transfer ≠ none → Answers (.creditRefill t) s fun u =>
          ∀ d,
            let limit := (s.classEntry d).sojournLimit
            let old (f : UpFrame) : Bool := decide (0 < limit ∧ f.arrival + limit * 10 < u.now)
            (stagedFrames u.sender.staged).filter (fun f => f.cls = some d) ++ u.radioQueue d =
                (s.radioQueue d).dropWhile old
              ∧ u.counter (ctrDropSojourn d) =
                  min (s.counter (ctrDropSojourn d) + ((s.radioQueue d).takeWhile old).length) 4294967295

/-! ## The reserve line -/

/-- ON_RESERVE sets and clears the reserve flag, by which the effective ceiling is at once the least of its inputs; with no
frame waiting for radio the change raises RESERVE, cuts a running linger timer to the reserve linger, and does nothing
else (R91, R106, R140). With the line at its level already nothing changes, which is the model's choice (log 5). -/
def Obligations.ReserveLineSetsTheFlag : Prop :=
  ∀ (t : Reading) (s : State),
    let now := max s.now t
    let flagged (level : Bool) : State :=
      { s.startAt t with
        steering := { s.steering with reserve := level }
        notices := { s.notices with causes := s.notices.causes.add .reserve } }
    let cut := { s.bearer with
      lingerTimer := if s.bearer.state = .linger then
          s.bearer.lingerTimer.map fun r => min r (now + s.radio.reserveLinger * 1000)
        else s.bearer.lingerTimer }
    (s.steering.reserve = true → exec (.onReserveActive t) s = .next (s.startAt t))
    ∧ (s.steering.reserve = false → exec (.onReserveInactive t) s = .next (s.startAt t))
    ∧ (s.steering.reserve = false → Answers (.onReserveActive t) s fun u =>
        u.kept = { s.kept with now := now, steering := { s.steering with reserve := true } }
          ∧ u.effectiveCeiling = min (min s.station.managerCeiling s.station.reserveCeiling) s.allowance.ceiling)
    ∧ (s.steering.reserve = true → Answers (.onReserveInactive t) s fun u =>
        u.kept = { s.kept with now := now, steering := { s.steering with reserve := false } }
          ∧ u.effectiveCeiling = min (min s.station.managerCeiling 7) s.allowance.ceiling)
    ∧ (s.steering.reserve = false → s.queuedFrames = [] → ServiceAgrees s →
        LeadsTo (.onReserveActive t) s { flagged true with bearer := cut })
    ∧ (s.steering.reserve = true → s.queuedFrames = [] → ServiceAgrees s →
        LeadsTo (.onReserveInactive t) s (flagged false))

/-! ## Records from the modem -/

/-- A STATUS record takes the link up, restarts the silence timer, sets the last signal, and moves the radio state and its
timers by "The radio state at a glance": the attach field first, then the bearer field (R83, R88 to R93). With open demand
an ABSENT or SEARCHING part that is told ATTACHED goes on to OPENING (R89). -/
def Obligations.StatusMovesTheBearer : Prop :=
  ∀ (t : Reading) (bytes p : Bytes) (s : State), recordEnds s bytes (.status false p) 1 → statusContents p = true →
    let now := max s.now t
    let idle (state : RadioState) : Bearer :=
      { state := state, openTimer := none, lingerTimer := none, closingTimer := none, retryTimer := none }
    let retrying := { idle .ready with retryTimer := some (now + s.radio.retryInterval * 1000) }
    let attached := field 0 1 p = 1
    let code := field 1 1 p
    let moved : Bearer :=
      if attached then
        match s.bearer.state with
        | .absent | .searching => idle .ready
        | .ready => s.bearer
        | .opening => if code = 1 then idle .opened else if code = 2 then retrying else s.bearer
        | .opened | .linger => if code = 1 then s.bearer else retrying
        | .closing => if code = 1 then s.bearer else idle .ready
      else idle .searching
    Answers (.statusRecord t bytes) s (fun u =>
      u.kept = { s.kept with
        now := now
        link := { up := true, silence := some (now + 1000), assembly := ModemAssembly.empty, errors := s.link.errors }
        lastSignal := field 2 1 p })
    ∧ (BearerAgrees s → ServiceAgrees s → s.openDemand = false → Answers (.statusRecord t bytes) s fun u =>
        u.bearer = moved
          ∧ (¬attached → s.bearer.state.attached = true →
              u.scheduler.balance = 0 ∧ u.scheduler.estimate = 0 ∧ u.scheduler.sampled = false
                ∧ u.sender.bearerSlot = none ∧ u.sender.staged = none))
    ∧ (BearerAgrees s → ServiceAgrees s → s.openDemand = true → attached → code = 0 →
        s.bearer.state = .absent ∨ s.bearer.state = .searching → Answers (.statusRecord t bytes) s fun u =>
          u.bearer = { idle .opening with openTimer := some (now + s.radio.openTimeout * 1000) })
    ∧ (BearerAgrees s → ServiceAgrees s → s.openDemand = false → attached → code = 1 → s.bearer.state = .ready →
        Answers (.statusRecord t bytes) s fun u =>
          if s.sender.transfer = none then
            u.sender = { s.sender with
              bearerSlot := none, transfer := some (.bearer .bearerClose (bearerRecordBytes .bearerClose)) }
          else u.sender = { s.sender with bearerSlot := some .bearerClose })

/-- A GRANT record is not acted on while the link is down, is stray outside OPEN and LINGER, and otherwise sets the balance
and moves the estimate by its sample, the first sample taken whole; a staged frame that the balance now allows begins its
transfer at once (R81, R82, R85, R133 to R135). -/
def Obligations.GrantsSetTheBalance : Prop :=
  ∀ (t : Reading) (bytes p : Bytes) (s : State), recordEnds s bytes (.grant false p) 1 → grantContents p = true →
    let now := max s.now t
    let grant := field 0 2 p
    let raw := grant * 8 / field 2 2 p
    let counted := (recordDropped s t).bump ctrRecordsReceived
    let heard := { counted with link := { counted.link with silence := some (now + 1000) } }
    let estimate :=
      newEstimate s.scheduler.sampled s.scheduler.estimate (min raw 262143) s.radio.riseShift s.radio.fallShift
    let granted := State.bump
      { heard with scheduler := { s.scheduler with balance := grant, estimate := estimate, sampled := true } }
      ctrGrantsAccepted
    let accepted := if 262143 < raw then granted.bump ctrSamplesClamped else granted
    (s.link.up = false → LeadsTo (.grantRecord t bytes) s counted.undue)
    ∧ (s.link.up = true → s.bearer.state.carrying = false →
        LeadsTo (.grantRecord t bytes) s (heard.bump ctrStrayGrants).undue)
    ∧ (s.link.up = true → s.bearer.state.carrying = true →
        s.sender.transfer ≠ none ∨ (s.sender.bearerSlot = none ∧ s.sender.staged = none) →
        LeadsTo (.grantRecord t bytes) s accepted.undue)
    ∧ ∀ f, s.link.up = true → s.bearer.state.carrying = true → s.sender.transfer = none →
        s.sender.bearerSlot = none → s.sender.staged = some f →
        let carrier := carrierLength s.tunnel f.data.length
        carrier ≤ grant → Answers (.grantRecord t bytes) s fun u =>
          u.scheduler.balance = grant - carrier ∧ u.scheduler.estimate = estimate ∧ u.scheduler.sampled = true
            ∧ u.carrier.upstreamSequence = (s.carrier.upstreamSequence + 1) % 65536
            ∧ u.sender.transfer = some (.data f carrier
                (recordBytes 0x01 (wrapFrame s.tunnel s.carrier.upstreamSequence f)))

/-- A DATA record is not acted on while the link is down. With it up its payload is metered; a payload that passes R157's
tests sets the expected sequence by R158, and its frame is delivered in NORMAL, FALLBACK and ISOLATED if the downstream
occupancy leaves room; and a lingering bearer returns to OPEN (R81, R91, R102, R157 to R159, R164). -/
def Obligations.DataRecordsAreUnwrapped : Prop :=
  ∀ (t : Reading) (bytes p : Bytes) (s : State), recordEnds s bytes (.data false p) (cellsFor p.length) →
    let now := max s.now t
    let strip := s.tunnel.stripLength
    let inner := field (strip + 6) 2 p
    let n := field (strip + 4) 2 p
    let data := p.drop (strip + 8)
    let passes := strip + 8 ≤ p.length ∧ field strip 1 p = 1 ∧ field (strip + 2) 2 p = s.tunnel.downstreamId
      ∧ inner = p.length - strip ∧ 68 ≤ inner ∧ inner ≤ 1544
    let ahead := ∀ e, s.carrier.expected = some e → (n + 65536 - e) % 65536 < 32768
    let occupancy := byteCells s.downstream.fibre + byteCells s.downstream.radio + s.fibreAssembly.cells
    let delivered := (s.service.mode = .normal ∨ s.service.mode = .fallback ∨ s.service.mode = .isolated)
      ∧ occupancy + cellsFor data.length ≤ s.station.downstreamLimit
    let metered := { s.allowance with used := min (s.allowance.used + p.length) 1099511627775 }
    (s.link.up = false → LeadsTo (.dataRecord t bytes) s
      (State.undue (State.returnCells
        (State.bump { s.startAt t with link := { s.link with assembly := ModemAssembly.empty } } ctrRecordsReceived)
        s.link.assembly.cells)))
    ∧ (s.link.up = true → Answers (.dataRecord t bytes) s fun u =>
        u.kept = { s.kept with
          now := now
          link := { s.link with silence := some (now + 1000), assembly := ModemAssembly.empty }
          allowance := { metered with ceiling := metered.ceilingNow }
          expected := if passes ∧ ahead then some ((n + 1) % 65536) else s.carrier.expected
          downstream :=
            if passes ∧ delivered then { s.downstream with radio := s.downstream.radio ++ [data] } else s.downstream })
    ∧ (s.link.up = true → s.bearer.state = .linger → Answers (.dataRecord t bytes) s fun u =>
        u.bearer = { s.bearer with state := .opened, lingerTimer := none })

/-- A record with a header error, a payload too long, a failed payload check, an unknown kind or contents out of range is
discarded: its cells return, its counter rises, its flag is set in the link error summary, and nothing else changes (R79 to
R82, R96). A record that was being skipped ends without effect at its delimiter (R52, R57). -/
def Obligations.BadRecordsAreDiscarded : Prop :=
  ∀ (t : Reading) (bytes : Bytes) (s : State),
    let discarded (counter : Nat) (flag : LinkFlag) : State :=
      State.undue (State.linkError ((recordDropped s t).bump counter) flag)
    let skipped := { s.startAt t with link := { s.link with assembly := ModemAssembly.empty } }
    (∀ k, recordEnds s bytes .headerError k →
      LeadsTo (.headerError t bytes) s (discarded ctrHeaderErrors .header))
    ∧ (∀ k, recordEnds s bytes (.overLength false) k →
      LeadsTo (.modemOverLength t bytes) s (discarded ctrModemOverLength .length))
    ∧ (∀ k, recordEnds s bytes (.payloadError false) k →
      LeadsTo (.payloadError t bytes) s (discarded ctrPayloadErrors .payload))
    ∧ (∀ n, recordEnds s bytes (.unknownKind false n) (cellsFor n) →
      LeadsTo (.unknownKindRecord t bytes) s (discarded ctrUnknownKinds .kind))
    ∧ (∀ p, recordEnds s bytes (.status false p) (cellsFor p.length) → statusContents p = false →
      LeadsTo (.statusRecord t bytes) s (discarded ctrRangeErrors .range))
    ∧ (∀ p, recordEnds s bytes (.grant false p) (cellsFor p.length) → grantContents p = false →
      LeadsTo (.grantRecord t bytes) s (discarded ctrRangeErrors .range))
    ∧ (s.link.assembly.skipping = true →
      (judgeRecord bytes = .headerError → exec (.headerError t bytes) s = .next skipped)
      ∧ (judgeRecord bytes = .overLength false → exec (.modemOverLength t bytes) s = .next skipped)
      ∧ (judgeRecord bytes = .payloadError false → exec (.payloadError t bytes) s = .next skipped)
      ∧ ∀ n, judgeRecord bytes = .unknownKind false n → exec (.unknownKindRecord t bytes) s = .next skipped)

/-! ## The Modem link and the bearer -/

/-- A transfer begins when the link is up and none is under way: a pending bearer record first, otherwise a staged frame
whose carrier length the balance allows, which falls by it; a frame that must wait for balance is counted once (R85, R146,
R153, R156). When a transfer ends, a DATA record's carrier length is metered and, with the staged slot empty, OPEN becomes
LINGER, its timer set by the linger of the moment; a bearer record's end changes nothing but the records-sent counter (R86,
R90, R91, R163). With nothing in transfer nothing ends, and with nothing to send nothing begins: the model's choice
(log 5). -/
def Obligations.TransfersBeginAndEnd : Prop :=
  (∀ (t : Reading) (s : State),
     let e := s.startAt t
     (s.link.up = false ∨ s.sender.transfer ≠ none ∨ (s.sender.bearerSlot = none ∧ s.sender.staged = none) →
       exec (.transferBegin t) s = .next e)
     ∧ (∀ k, s.link.up = true → s.sender.transfer = none → s.sender.bearerSlot = some k →
       exec (.transferBegin t) s = .next { e with sender := { s.sender with
         bearerSlot := none
         transfer := some (.bearer k (recordBytes (if k = .bearerOpen then 0x02 else 0x03) [])) } })
     ∧ ∀ f, s.link.up = true → s.sender.transfer = none → s.sender.bearerSlot = none → s.sender.staged = some f →
       let carrier := carrierLength s.tunnel f.data.length
       (s.scheduler.balance < carrier →
         exec (.transferBegin t) s = .next
           (if f.waited then e
           else
             { e with
               sender := { s.sender with staged := some { f with waited := true } }
               counters := (s.bump ctrGrantWaits).counters }))
       ∧ (carrier ≤ s.scheduler.balance → Answers (.transferBegin t) s fun u =>
           u.kept = { s.kept with now := max s.now t }
             ∧ u.sender.bearerSlot = none
             ∧ u.sender.transfer = some (.data f carrier
                 (recordBytes 0x01 (wrapFrame s.tunnel s.carrier.upstreamSequence f)))
             ∧ u.scheduler.balance = s.scheduler.balance - carrier
             ∧ u.carrier.upstreamSequence = (s.carrier.upstreamSequence + 1) % 65536))
    ∧ ∀ (t : Reading) (s : State),
        let now := max s.now t
        let freed := { s.sender with transfer := none }
        (s.sender.transfer = none → exec (.transferEnd t) s = .next (s.startAt t))
        ∧ (∀ k bytes, s.sender.transfer = some (.bearer k bytes) → s.sender.bearerSlot = none → s.sender.staged = none →
          exec (.transferEnd t) s = .next
            { s.startAt t with sender := freed, counters := (s.bump ctrRecordsSent).counters })
        ∧ ∀ f carrier bytes, s.sender.transfer = some (.data f carrier bytes) →
          let metered := { s.allowance with used := min (s.allowance.used + carrier) 1099511627775 }
          (Answers (.transferEnd t) s fun u =>
            u.kept = { s.kept with now := now, allowance := { metered with ceiling := metered.ceilingNow } })
          ∧ (ServiceAgrees s → s.bearer.state = .opened → s.sender.bearerSlot = none → s.sender.staged = none →
            metered.ceilingNow = s.allowance.ceiling →
            (∀ i e, f.flow = some i → s.entry i = some e → e.move = none) →
            Answers (.transferEnd t) s fun u =>
              u.sender = freed
                ∧ u.bearer = { s.bearer with
                    state := .linger
                    lingerTimer := some
                      (now + (if s.steering.reserve then s.radio.reserveLinger else s.radio.linger) * 1000) }
                ∧ ∀ i e, f.flow = some i → s.entry i = some e →
                    u.entry i = some { e with radioPending := e.radioPending - 1 })

/-- The open timer takes OPENING to READY with the retry timer running; the linger timer takes LINGER to CLOSING with
BEARER_CLOSE requested; the closing timer takes CLOSING to READY; and the retry timer's expiry lets open demand open the
bearer (R89 to R92). The silence timer's expiry takes the link down: ABSENT with every bearer timer stopped, no bearer
record, staged frame or transfer left, the scheduler without balance, estimate, credit and run, the modem receive assembly
empty, and LOST in the link error summary (R84); a record that ends when the expiry has been taken ends as it would have
before, so that a STATUS takes the link up again at once (R83). The model's choices: a record under way at the expiry is not
skipped, whatever of it has still to come (log 30); a timer that is not running does not expire, and none expires before its
time (log 5). -/
def Obligations.BearerTimersAct : Prop :=
  (∀ (t : Reading) (s : State),
     (s.link.silence = none → exec (.silenceTimerExpiry t) s = .next (s.startAt t))
     ∧ ∀ r, s.link.silence = some r → FlowsAccounted s → Answers (.silenceTimerExpiry t) s fun u =>
       u.kept = { s.kept with
         now := max (max s.now t) r
         link :=
           { up := false, silence := none,
             assembly :=
               { s.link.assembly with
                 cells := 0, released := s.link.assembly.released || decide (0 < s.link.assembly.cells) },
             errors := { s.link.errors with lost := true } } }
         ∧ (∀ bytes judged k, recordEnds s bytes judged k → recordEnds u bytes judged k)
         ∧ u.bearer = Bearer.absent ∧ u.sender = { bearerSlot := none, staged := none, transfer := none }
         ∧ u.scheduler.balance = 0 ∧ u.scheduler.estimate = 0 ∧ u.scheduler.sampled = false
         ∧ u.scheduler.credit = Vector.replicate 8 0 ∧ u.scheduler.runClass = none ∧ u.scheduler.runCount = 0)
  ∧ ∀ (t r : Reading) (s : State),
    let now := max (max s.now t) r
    let opening (b : Bearer) : Bearer :=
      { b with state := .opening, openTimer := some (now + s.radio.openTimeout * 1000) }
    (s.bearer.openTimer = none → exec (.openTimerExpiry t) s = .next (s.startAt t))
    ∧ (s.bearer.lingerTimer = none → exec (.lingerTimerExpiry t) s = .next (s.startAt t))
    ∧ (s.bearer.closingTimer = none → exec (.closingTimerExpiry t) s = .next (s.startAt t))
    ∧ (s.bearer.retryTimer = none → exec (.retryTimerExpiry t) s = .next (s.startAt t))
    ∧ (s.bearer.openTimer = some r → s.bearer.state = .opening → Answers (.openTimerExpiry t) s fun u =>
        u.kept = { s.kept with now := now } ∧ u.scheduler.balance = 0
          ∧ u.bearer = { s.bearer with
              state := .ready, openTimer := none, retryTimer := some (now + s.radio.retryInterval * 1000) })
    ∧ (s.bearer.lingerTimer = some r → s.bearer.state = .linger → Answers (.lingerTimerExpiry t) s fun u =>
        u.kept = { s.kept with now := now }
          ∧ u.bearer = { s.bearer with
              state := .closing, lingerTimer := none, closingTimer := some (now + s.radio.openTimeout * 1000) }
          ∧ u.sender =
              if s.link.up = true ∧ s.sender.transfer = none then
                { s.sender with
                  bearerSlot := none, transfer := some (.bearer .bearerClose (bearerRecordBytes .bearerClose)) }
              else { s.sender with bearerSlot := some .bearerClose })
    ∧ (s.bearer.closingTimer = some r → s.bearer.state = .closing → s.bearer.retryTimer = none → ServiceAgrees s →
        Answers (.closingTimerExpiry t) s fun u =>
          u.kept = { s.kept with now := now } ∧ u.scheduler.balance = 0
            ∧ u.bearer =
                if s.openDemand then opening { s.bearer with closingTimer := none }
                else { s.bearer with state := .ready, closingTimer := none })
    ∧ (s.bearer.retryTimer = some r → s.bearer.state ≠ .ready ∨ s.openDemand = false →
        exec (.retryTimerExpiry t) s = .next
          { s.startAt t with now := now, bearer := { s.bearer with retryTimer := none } })
    ∧ (s.bearer.retryTimer = some r → s.bearer.state = .ready → s.openDemand = true → ServiceAgrees s →
        Answers (.retryTimerExpiry t) s fun u =>
          u.kept = { s.kept with now := now } ∧ u.bearer = opening { s.bearer with retryTimer := none })

/-! ## The Radio Lane Scheduler -/

/-- A refill comes at the next whole multiple of 10 ms. Each admitted class receives its share of the allotment up to its
cap, and a class that is not admitted nothing; with the staged slot full nothing else changes; outside OPEN and LINGER
there is no refill; a selection follows and stages the head of the class it chooses (R138, R143 to R145). That the command's
refill is taken at the next multiple is the model's choice (log 18). -/
def Obligations.RefillsCreditAdmittedClasses : Prop :=
  ∀ (t : Reading) (s : State),
    let now := (max s.now t + 9) / 10 * 10
    let allotment := s.scheduler.estimate * s.radio.headroom / 16 * 5 / 4
    let credit (c : TrafficClass) : Int :=
      if s.admitted c then
        min (s.credit c + ((allotment * (s.classEntry c).weight / 64 : Nat) : Int)) ((s.classEntry c).burst * 128)
      else s.credit c
    let refilled := { s.startAt t with now := now, scheduler := { s.scheduler with credit := Vector.ofFn credit } }
    (s.bearer.state.carrying = false → exec (.creditRefill t) s = .next (s.startAt t))
    ∧ (s.bearer.state.carrying = true → Answers (.creditRefill t) s fun u => u.kept = { s.kept with now := now })
    ∧ (s.bearer.state.carrying = true → s.sender.staged ≠ none → exec (.creditRefill t) s = .next refilled)
    ∧ ∀ c f rest, s.bearer.state = .opened → s.sender.staged = none → s.sender.transfer ≠ none →
        (∀ d, (s.classEntry d).sojournLimit = 0) → refilled.chosen = some c → s.radioQueue c = f :: rest →
        Answers (.creditRefill t) s fun u =>
          u.sender = { s.sender with staged := some f } ∧ u.radioQueue c = rest
            ∧ u.credit c = credit c - f.data.length ∧ u.scheduler.runClass = some c
            ∧ (∀ d, d ≠ c → u.radioQueue d = s.radioQueue d ∧ u.credit d = credit d)
            ∧ u.scheduler.runCount =
                if s.scheduler.runClass = some c then min (s.scheduler.runCount + 1) 64 else 1

/-- The class chosen at a selection is a candidate, admitted, with frames and a credit of 1 or more, of the lowest level
among the candidates: the lowest-numbered of that level, or, where the run class stands at that level, has reached the run
limit and another candidate stands beside it, the first of them after it in cyclic order. None is chosen exactly where there
is no candidate (R144, R145). -/
def Obligations.SelectionChoosesByLevelAndRun : Prop :=
  ∀ s : State,
    let candidate (c : TrafficClass) : Prop := s.admitted c = true ∧ s.radioQueue c ≠ [] ∧ 1 ≤ s.credit c
    let level (c : TrafficClass) : Nat := (s.classEntry c).level
    let leads (c : TrafficClass) : Prop := candidate c ∧ ∀ d, candidate d → level c ≤ level d
    let yields (r : TrafficClass) : Prop :=
      s.scheduler.runClass = some r ∧ leads r ∧ s.radio.runLimit ≤ s.scheduler.runCount ∧ ∃ d, d ≠ r ∧ leads d
    let distance (r c : TrafficClass) : Nat := (c.val + 8 - r.val) % 8
    (∀ c, level c ≤ 7) →
    (s.chosen = none ↔ ∀ c, ¬candidate c)
    ∧ (∀ c, s.chosen = some c → leads c)
    ∧ (∀ c, s.chosen = some c → (∀ r, ¬yields r) → ∀ d, leads d → c ≤ d)
    ∧ ∀ c r, s.chosen = some c → yields r → c ≠ r ∧ ∀ d, d ≠ r → leads d → distance r c ≤ distance r d

/-! ## The Control Unit -/

/-- The Control Unit turns to the frame at the head of its queue: a malformed one is discarded, and a well-formed one begun
once the priority FIFO has a place and the pool the cells of the largest reply; while a frame is in execution no turn comes
(R49, R171, R179). The hold timer's expiry makes the hold lapse (R177). The model's choices: no turn comes while the queue
is empty or a RESTART has yet to act (log 8), a malformed frame is discarded before the room is tested (log 22), and with the
hold free its timer does not expire (log 5). -/
def Obligations.ControlFramesBegin : Prop :=
  ∀ (t : Reading) (s : State),
    let e := s.startAt t
    (s.control.execution ≠ none ∨ s.control.restartDue = true ∨ s.control.queue = [] →
      exec (.controlFrameBegin t) s = .next e)
    ∧ (∀ frame rest, s.control.execution = none → s.control.restartDue = false → s.control.queue = frame :: rest →
      let cells := (s.station.largestReply + 14 + 127) / 128
      (parseFrame frame = none → LeadsTo (.controlFrameBegin t) s
        (State.undue (State.returnCells
          (State.bump
            { e with control := { s.control with queue := rest, errors := { s.control.errors with malformed := true } } }
            ctrMalformed) (cellsFor frame.length))))
      ∧ (parseFrame frame ≠ none → 4 ≤ s.egress.priority.length ∨ s.pool.free < cells →
        exec (.controlFrameBegin t) s = .next e)
      ∧ ∀ requests, parseFrame frame = some requests → s.egress.priority.length < 4 → cells ≤ s.pool.free →
        let begun : Execution :=
          { todo := requests, results := [], requests := requests.length, largest := s.station.largestReply,
            replyCells := cells, broadcast := decide (addrField 0 frame = 0xFFFFFFFFFFFF), restart := false }
        LeadsTo (.controlFrameBegin t) s
          (State.undue (State.takeCells { e with control := { s.control with execution := some begun } } cells)))
    ∧ (s.control.hold = none → exec (.holdTimerExpiry t) s = .next e)
    ∧ ∀ r, s.control.hold = some r → LeadsTo (.holdTimerExpiry t) s
        { e with
          now := max (max s.now t) r
          control := { s.control with hold := none, errors := { s.control.errors with holdLapsed := true } }
          counters := (s.bump ctrHoldLapses).counters
          notices := { s.notices with causes := s.notices.causes.add .hold } }

/-- When the last request of a frame has been answered, its reply is written to the priority FIFO, the cells taken for it
but not used return, the control frame leaves its queue with its cells, and the port begins what the arbiter chooses (R49,
R172). The reply is as long as its header and its results, and 60 bytes at the least. Before, nothing is written. -/
def Obligations.RepliesAreWritten : Prop :=
  ∀ (t : Reading) (s : State),
    (∀ x, s.control.execution = some x → x.todo ≠ [] → exec (.replyWrite t) s = .next (s.startAt t))
    ∧ (s.control.execution = none ∨ s.control.queue = [] → exec (.replyWrite t) s = .next (s.startAt t))
    ∧ ∀ x frame rest, s.control.execution = some x → x.todo = [] → s.control.queue = frame :: rest →
      let reply := s.replyFrame frame x
      let e := State.returnCells (s.startAt t) (x.replyCells - cellsFor reply.length)
      let written := { e with
        egress := { s.egress with priority := s.egress.priority ++ [reply] }
        control := { s.control with
          queue := rest, execution := none, restartDue := s.control.restartDue || x.restart } }
      LeadsTo (.replyWrite t) s
        (State.undue (State.beginPremises
          (State.returnCells (written.bump ctrFramesExecuted) (cellsFor frame.length))))
      ∧ (12 ≤ frame.length → x.results.length = x.requests → reply.length = max 60 (14 + x.size))

/-- RESTART, once its frame's reply has been written, empties the forwarding state and clears every counter, and takes the
radio side and the monitor to the states of R76 and R98; a frame in transmission on the Fibre port is cut short, a probe is
not, and where probing runs a new one is issued; the last-served mark becomes RADIO; the service mode, the lamp and the
fibre-out mark take the values that the new inputs give; the loaded records, the flap count, the reserve flag, begun and the
table hold stay as they were, but for the match counts (R57, R62, R76, R98, R114, R116, R129, R150, R161, R169, R178). The
model's choices: with no RESTART due it does not act (log 5, log 8); what is left of a Fibre port frame under way is ignored,
and a record under way, skipped to its delimiter, is one that had taken a cell (log 29); and a probe that RESTART begins is
not counted as sent, every counter being 0 afterwards (log 17). -/
def Obligations.RestartEmptiesTheForwardingState : Prop :=
  ∀ (t : Reading) (s : State),
    let now := max s.now t
    let probing := s.lightLost = false ∧ s.probe.destination ≠ 0
    let issued := probeFrame s.probe.destination s.station.address s.probe.etherType s.probe.token s.monitor.nextSequence
    let mode : Mode :=
      if s.steering.begun = false then (if s.steering.strapHigh then .pass else .hold)
      else if s.station.force = .fibre then .normal
      else if s.station.force = .radio ∨ s.lightLost = true then .isolated
      else .normal
    (s.control.restartDue = false → exec (.restartAct t) s = .next (s.startAt t))
    ∧ (s.control.restartDue = true → Answers (.restartAct t) s fun u =>
      u.kept = { s.kept with
        now := now
        rules := s.rules.map fun r => { r with matchCount := 0 }
        monitor := u.monitor
        fibreAssembly :=
          { cells := 0, ignoring := s.fibreAssembly.ignoring || decide (0 < s.fibreAssembly.cells) }
        link :=
          { up := false, silence := none,
            assembly :=
              { cells := 0, headCounted := false,
                skipping := s.link.assembly.skipping || s.link.assembly.released
                  || decide (0 < s.link.assembly.cells) },
            errors := LinkErrors.clear }
        lastSignal := 0
        expected := none
        downstream :=
          { fibre := if s.egress.sending = some .fibre then s.downstream.fibre.take 1 else []
            radio := if s.egress.sending = some .radio then s.downstream.radio.take 1 else [] }
        control := { s.control with restartDue := false, errors := ControlErrors.clear } }
      ∧ u.monitor.state = (if s.lightLost then .down else .up) ∧ u.monitor.misses = 0 ∧ u.monitor.hits = 0
      ∧ u.monitor.flapCount = s.monitor.flapCount
      ∧ u.monitor.deadline =
          (if s.lightLost then some (now + s.probe.baseHoldDown * 2 ^ min s.monitor.flapCount 4 * 1000) else none)
      ∧ u.monitor.calmStart = (if s.lightLost then none else some now)
      ∧ u.monitor.outstanding =
          (if probing then some { sequence := s.monitor.nextSequence, hit := false } else none)
      ∧ u.fibre =
          (match s.fibre.sending with
            | some (.probe p) =>
              { queue := [], sending := some (.probe p), waitingProbe := if probing then some issued else none }
            | some (.frame _) | none =>
              { queue := [], sending := if probing then some (.probe issued) else none, waitingProbe := none })
      ∧ u.egress.lastServed = .radio ∧ u.service.mode = mode
      ∧ u.service.fibreOut = decide (mode = .isolated ∧ s.lightLost = true)
      ∧ (ServiceAgrees s → u.service.lamp = decide (mode = .isolated))
      ∧ u.flows = [] ∧ u.held = [] ∧ u.scheduler = Scheduler.reset
      ∧ u.sender = { bearerSlot := none, staged := none, transfer := none } ∧ u.bearer = Bearer.absent
      ∧ u.carrier.upstreamSequence = 0
      ∧ ∀ i, i ≠ ctrNotices → u.counter i = 0)

/-- A notice is written when a cause is pending, the notice address is not zero, 100 ms have passed since the last notice
and the priority FIFO and the pool have room: the causes are cleared and the port begins what the arbiter chooses. Where one
of these fails nothing changes (R50, R181). The end of the spacing makes the same test. The model's choices: the notice
shows the free count before its own cell is taken (log 12), and with no last notice no spacing ends (log 5). -/
def Obligations.NoticesAreWritten : Prop :=
  ∀ (t : Reading) (s : State),
    let ready (now : Reading) : Prop :=
      s.notices.causes ≠ Causes.empty ∧ s.station.noticeAddress ≠ 0
        ∧ (∀ r, s.notices.last = some r → r + 100 ≤ now)
        ∧ s.egress.priority.length + (if s.control.execution = none then 0 else 1) < 4 ∧ 1 ≤ s.pool.free
    let frame := addrBytes s.station.noticeAddress ++ addrBytes s.station.address ++ beBytes 2 s.station.controlType
      ++ [2, BitVec.ofNat 8 s.notices.causes.code] ++ s.snapshot ++ List.replicate 20 0
    let written (now : Reading) : State :=
      State.beginPremises { s.startAt t with
        now := now
        notices := { causes := Causes.empty, last := some now }
        egress := { s.egress with priority := s.egress.priority ++ [frame] }
        counters := (s.bump ctrNotices).counters
        pool := { s.pool with free := s.pool.free - 1 } }
    let tested (c : Instr) (now : Reading) : Prop :=
      (¬ready now → exec c s = .next { s.startAt t with now := now })
        ∧ (ready now → s.pool.low = false → s.station.reserveFloor < s.pool.free → exec c s = .next (written now))
    tested (.noticeWrite t) (max s.now t)
    ∧ (s.notices.last = none → exec (.noticeSpacingEnd t) s = .next (s.startAt t))
    ∧ ∀ r, s.notices.last = some r → tested (.noticeSpacingEnd t) (max (max s.now t) (r + 100))

/-! ## The manager's requests -/

/-- A READ returns, from its index on, as many whole entries as it names, the table has and the reply has room for, answered
TRUNCATED where the room ended it and CLAMPED for a count of 0; an index outside the table is refused RANGE; the clear
option then clears the match counts, counters or error summaries that were returned, and nothing else changes (R16, R39,
R96, R172, R173, R175). DISCOVER returns the part's codes and its factory address (R176). The model's choices: DISCOVER
returns count 1, or TRUNCATED with count 0 where it does not fit (log 19); the coding of a flow entry (log 16); and one READ
reads all its entries in one state (log 25). -/
def Obligations.ReadsReturnTheirEntries : Prop :=
  ∀ (t : Reading) (x : Execution) (r : Request) (s : State),
    let e := s.startAt t
    let status (cut : Bool) : Status := if cut then .truncated else if r.count = 0 then .clamped else .ok
    let answered (u : State) (result : Result) : State := { u with control := u.control.answered x result }
    let returns (c : Instr) (table : Table) (last : Nat) (entry : Nat → Bytes) (clear : List Nat → State) : Prop :=
      NextRequest s x r (.read table) →
        (last < r.index → exec c s = .next (answered (e.bump ctrRefused) (refusal r .range)))
        ∧ (r.index ≤ last →
          let wanted := (List.range (min (max r.count 1) (last + 1 - r.index))).map (r.index + ·)
          let dataOf (k : Nat) : Bytes := ((wanted.take k).map entry).flatten
          ∃ k ≤ wanted.length,
            (dataOf k).length ≤ x.room ∧ (k < wanted.length → x.room < (dataOf (k + 1)).length)
              ∧ exec c s = .next
                  (answered (if r.clear then clear (wanted.take k) else e)
                    { status := status (decide (k < wanted.length)), kind := r.kind, count := k, data := dataOf k }))
    let untouched (_ : List Nat) : State := e
    returns (.readStationRecord t) .station 0 (fun _ => s.stationBytes) untouched
    ∧ returns (.readClassRuleTable t) .rules 63 s.ruleEntry (fun is =>
        { e with rules := s.rules.mapIdx fun i rule => if i ∈ is then { rule with matchCount := 0 } else rule })
    ∧ returns (.readClassTable t) .classes 7 s.classTableEntry untouched
    ∧ returns (.readFlowTable t) .flows 1023 e.flowTableEntry untouched
    ∧ returns (.readProbeRecord t) .probe 0 (fun _ => probeBytes s.probe) untouched
    ∧ returns (.readRadioRecord t) .radio 0 (fun _ => radioBytes s.radio) untouched
    ∧ returns (.readTunnelRecord t) .tunnel 0 (fun _ => tunnelBytes s.tunnel) untouched
    ∧ returns (.readAllowanceRecord t) .allowance 0 (fun _ => allowanceBytes s.allowance) untouched
    ∧ returns (.readStatusSnapshot t) .snapshot 0 (fun _ => s.snapshot) (fun is =>
        if is = [] then e
        else
          { e with
            link := { s.link with errors := LinkErrors.clear }
            control := { s.control with errors := ControlErrors.clear } })
    ∧ returns (.readCounters t) .counters 1407 (fun i => beBytes 4 (s.counter i)) (fun is =>
        is.foldl (fun u i => u.setCounter i 0) e)
    ∧ (NextRequest s x r .discover →
        let data := [0x0A, 0x31, 0x12, 0x0C, 1] ++ addrBytes s.factory
        exec (.discover t) s = .next (answered e
          (if data.length ≤ x.room then { status := status false, kind := r.kind, count := 1, data := data }
          else { status := .truncated, kind := r.kind, count := 0, data := [] })))

/-- A WRITE sets the selected fields of its record, each clamped to its range, answers OK, or CLAMPED where a value was
changed on its way in, and of the part of the state that the end of an event leaves alone changes nothing else but the
monitor, which meets a written Probe record by R71 and R74. An index outside the table and data too short are refused RANGE,
and a rule without the table hold NOT_HELD, with nothing changed (R15, R18, R59, R95, R151, R162, R172 to R174). That a
yes/no field or present mark above 1 is taken as 1 and answered CLAMPED is the model's choice (log 16). -/
def Obligations.WritesSetTheirRecords : Prop :=
  ∀ (t : Reading) (x : Execution) (r : Request) (s : State),
    let refused (c : Instr) (status : Status) : Prop :=
      exec c s = .next { (s.startAt t).bump ctrRefused with control := s.control.answered x (refusal r status) }
    let base := { s.kept with now := max s.now t }
    let writes (c : Instr) (table : Table) (last : Nat) (sizes : List Nat) (clamped : List (Option Bytes) → Bool)
        (law : List (Option Bytes) → Control → State → Prop) : Prop :=
      NextRequest s x r (.write table) → (table = .rules → s.control.hold ≠ none) →
        (last < r.index ∨ selectFields sizes 0 r.select r.data = none → refused c .range)
        ∧ ∀ fields, r.index ≤ last → selectFields sizes 0 r.select r.data = some fields →
            Answers c s (law fields (s.control.answered x (plainResult r (clamped fields))))
    let rule := s.rules.getD r.index Rule.reset
    let entry := s.classes.getD r.index ClassEntry.reset
    writes (.writeStationRecord t) .station 0 stationSizes (stationClamped · s.station) (fun fields k u =>
      u.kept = { base with station := writtenStation fields s.station, control := k })
    ∧ writes (.writeClassRuleTable t) .rules 63 ruleSizes (ruleClamped · rule) (fun fields k u =>
      u.kept = { base with rules := s.rules.setIfInBounds r.index (writtenRule fields rule), control := k })
    ∧ writes (.writeClassTable t) .classes 7 classSizes (classClamped · entry) (fun fields k u =>
      u.kept = { base with classes := s.classes.setIfInBounds r.index (writtenClass fields entry), control := k })
    ∧ writes (.writeProbeRecord t) .probe 0 probeSizes (probeClamped · s.probe) (fun fields k u =>
      let p := writtenProbe fields s.probe
      let m := s.monitor
      let now := max s.now t
      let runs := p.destination ≠ 0 ∧ s.lightLost = false
      let restored (m : Monitor) : Monitor :=
        if m.state = .recovering ∧ (∃ d, m.deadline = some d ∧ d ≤ now) ∧ (p.restoreCount ≤ m.hits ∨ ¬runs) then
          { m with state := .up, misses := 0, hits := 0, deadline := none, calmStart := some now }
        else m
      let stopped := { m with outstanding := none, nextProbe := none }
      let switched : Monitor :=
        if s.lightLost = false ∧ s.probe.destination = 0 ∧ p.destination ≠ 0 then
          { m with
            outstanding := some { sequence := m.nextSequence, hit := false }
            nextSequence := (m.nextSequence + 1) % 65536, nextProbe := some (now + p.interval * 100) }
        else if s.lightLost = false ∧ s.probe.destination ≠ 0 ∧ p.destination = 0 then
          match m.state with
          | .up => stopped
          | .suspect => { stopped with state := .up, misses := 0 }
          | .down => restored { stopped with state := .recovering, hits := 1 }
          | .recovering => restored stopped
        else m
      let counted := if fieldAt fields 5 = none then switched else restored switched
      let calmed := match counted.calmStart with
        | some c =>
          if fieldAt fields 7 ≠ none ∧ c + p.calmPeriod * 60000 ≤ now then
            { counted with flapCount := counted.flapCount - 1, calmStart := some now }
          else counted
        | none => counted
      u.kept = { base with probe := p, monitor := u.monitor, control := k }
        ∧ (MonitorAgrees s → u.monitor = calmed))
    ∧ writes (.writeRadioRecord t) .radio 0 radioSizes (radioClamped · s.radio) (fun fields k u =>
      u.kept = { base with radio := writtenRadio fields s.radio, control := k })
    ∧ writes (.writeTunnelRecord t) .tunnel 0 tunnelSizes (tunnelClamped · s.tunnel) (fun fields k u =>
      u.kept = { base with tunnel := (writtenTunnel fields s.tunnel).tested, control := k })
    ∧ writes (.writeAllowanceRecord t) .allowance 0 allowanceSizes allowanceClamped (fun fields k u =>
      let written := writtenAllowance fields s.allowance
      u.kept = { base with allowance := { written with ceiling := written.ceilingNow }, control := k })
    ∧ (NextRequest s x r (.write .rules) → s.control.hold = none → refused (.writeClassRuleTable t) .notHeld)

/-- DELETE removes an idle entry and is refused BUSY for another; FLUSH_FLOWS removes every idle entry and returns how many
are left; HOLD and RELEASE take and free the table hold; RESTART is answered and marks the frame; and a request of an
unknown kind or table is refused (R37, R38, R172, R177, R178). Each changes nothing else. That FLUSH_FLOWS returns count 1,
or TRUNCATED with count 0 where its data does not fit, is the model's choice (log 19). -/
def Obligations.TableRequestsAct : Prop :=
  ∀ (t : Reading) (x : Execution) (r : Request) (s : State),
    let e := s.startAt t
    let refused (c : Instr) (status : Status) : Prop :=
      exec c s = .next { e.bump ctrRefused with control := s.control.answered x (refusal r status) }
    let done := s.control.answered x (plainResult r false)
    let idle (f : FlowEntry) : Prop := f.move = none ∧ f.fibrePending = 0 ∧ f.radioPending = 0 ∧ f.held = 0
    (NextRequest s x r .delete →
      (1023 < r.index → refused (.deleteFlow t) .range)
      ∧ (r.index ≤ 1023 → s.entry r.index = none → exec (.deleteFlow t) s = .next { e with control := done })
      ∧ ∀ f, r.index ≤ 1023 → s.entry r.index = some f →
          (idle f → exec (.deleteFlow t) s = .next { e.removeEntry r.index with control := done })
          ∧ (¬idle f → refused (.deleteFlow t) .busy))
    ∧ (NextRequest s x r .flushFlows →
        let left := s.flows.filter fun p => !p.2.idle
        exec (.flushFlows t) s = .next { e with
          flows := left
          control := s.control.answered x
            (if 2 ≤ x.room then
              { status := if r.count = 0 then .clamped else .ok, kind := r.kind, count := 1,
                data := beBytes 2 left.length }
            else { status := .truncated, kind := r.kind, count := 0, data := [] }) })
    ∧ (NextRequest s x r .hold → exec (.hold t) s = .next { e with
        control := { done with hold := some (max s.now t + s.station.holdTimeout * 1000) } })
    ∧ (NextRequest s x r .release → exec (.release t) s = .next { e with control := { done with hold := none } })
    ∧ (NextRequest s x r .restart → exec (.restart t) s = .next { e with
        control := s.control.answered { x with restart := true } (plainResult r false) })
    ∧ ∀ status, NextRequest s x r (.refused status) → refused (.badKindRequest t) status

/-- BEGIN makes service begun, and the mode then follows R104's table; with service begun already it changes nothing
(R103, R104). NEW_PERIOD sets used to 0 and SET_USED to the value it carries, and the allowance ceiling is re-evaluated at
once; a SET_USED with less than five bytes of data is refused RANGE (R166, R168, R172, R176). That of more than five bytes
the first five are taken is the model's choice (log 31). -/
def Obligations.ServiceRequestsAct : Prop :=
  ∀ (t : Reading) (x : Execution) (r : Request) (s : State),
    let done := s.control.answered x (plainResult r false)
    let base := { s.kept with now := max s.now t, control := done }
    let used (v : Nat) : Allowance :=
      { s.allowance with used := v, ceiling := Allowance.ceilingNow { s.allowance with used := v } }
    (NextRequest s x r .beginService →
      (s.steering.begun = true → exec (.beginService t) s = .next { s.startAt t with control := done })
      ∧ (s.steering.begun = false → Answers (.beginService t) s fun u =>
          u.kept = { base with steering := { s.steering with begun := true } }
            ∧ u.service.mode =
                if s.station.force = .fibre then .normal
                else if s.station.force = .none ∧ (s.monitor.state = .up ∨ s.monitor.state = .suspect) then .normal
                else if s.bearer.state = .absent ∨ s.bearer.state = .searching then .isolated
                else .fallback))
    ∧ (NextRequest s x r .newPeriod → Answers (.newPeriod t) s fun u => u.kept = { base with allowance := used 0 })
    ∧ (NextRequest s x r .setUsed →
      (r.data.length < 5 → exec (.setUsed t) s =
        .next { (s.startAt t).bump ctrRefused with control := s.control.answered x (refusal r .range) })
      ∧ (5 ≤ r.data.length → Answers (.setUsed t) s fun u =>
          u.kept = { base with allowance := used (field 0 5 r.data) }))

/-- Apart from RESET_N only the WRITE of a record changes it. The match counts aside, the rules are changed by their WRITE
alone; the used count only by what is metered, NEW_PERIOD and SET_USED; begun only by BEGIN; and the table hold only by
HOLD, RELEASE and the expiry of its timer (R103, R162 to R168, R173, R177, R178). -/
def Obligations.OnlyTheirCommandsChangeTheRecords : Prop :=
  ∀ (c : Instr) (s u : State), exec c s = .next u → (∀ a b d, c ≠ .resetN a b d) →
    let isNot (d : Reading → Instr) : Prop := ∀ t, c ≠ d t
    let untold (rules : Vector Rule 64) : Vector Rule 64 := rules.map fun r => { r with matchCount := 0 }
    (isNot .writeStationRecord → u.station = s.station)
    ∧ (isNot .writeClassRuleTable → untold u.rules = untold s.rules)
    ∧ (isNot .writeClassTable → u.classes = s.classes)
    ∧ (isNot .writeProbeRecord → u.probe = s.probe)
    ∧ (isNot .writeRadioRecord → u.radio = s.radio)
    ∧ (isNot .writeTunnelRecord → u.tunnel = s.tunnel)
    ∧ (isNot .writeAllowanceRecord → u.allowance.total = s.allowance.total ∧ u.allowance.steps = s.allowance.steps)
    ∧ (isNot .newPeriod → isNot .setUsed → isNot .transferEnd → (∀ t bytes, c ≠ .dataRecord t bytes) →
        u.allowance.used = s.allowance.used)
    ∧ (isNot .beginService → u.steering.begun = s.steering.begun) ∧ u.steering.strapHigh = s.steering.strapHigh
    ∧ (isNot .hold → isNot .release → isNot .holdTimerExpiry → u.control.hold = s.control.hold)
    ∧ (isNot .lightLostActive → isNot .lightLostInactive → u.lightLost = s.lightLost)
    ∧ (isNot .onReserveActive → isNot .onReserveInactive → u.steering.reserve = s.steering.reserve)
end

