-- ==== Sys2Proof/Laws/State.lean ====
section
/-! SUPPORT. What each named update of the state leaves in every field. -/

namespace Sys2Proof.Machine

@[simp] theorem State.startAt_now (s : State) (t : Reading) : (s.startAt t).now = max s.now t := rfl
@[simp] theorem State.startAt_lightLost (s : State) (t : Reading) : (s.startAt t).lightLost = s.lightLost := rfl
@[simp] theorem State.startAt_factory (s : State) (t : Reading) : (s.startAt t).factory = s.factory := rfl
@[simp] theorem State.startAt_station (s : State) (t : Reading) : (s.startAt t).station = s.station := rfl
@[simp] theorem State.startAt_rules (s : State) (t : Reading) : (s.startAt t).rules = s.rules := rfl
@[simp] theorem State.startAt_classes (s : State) (t : Reading) : (s.startAt t).classes = s.classes := rfl
@[simp] theorem State.startAt_flows (s : State) (t : Reading) : (s.startAt t).flows = s.flows := rfl
@[simp] theorem State.startAt_monitor (s : State) (t : Reading) : (s.startAt t).monitor = s.monitor := rfl
@[simp] theorem State.startAt_probe (s : State) (t : Reading) : (s.startAt t).probe = s.probe := rfl
@[simp] theorem State.startAt_fibre (s : State) (t : Reading) : (s.startAt t).fibre = s.fibre := rfl
@[simp] theorem State.startAt_fibreAssembly (s : State) (t : Reading) :
    (s.startAt t).fibreAssembly = s.fibreAssembly := rfl
@[simp] theorem State.startAt_link (s : State) (t : Reading) : (s.startAt t).link = s.link := rfl
@[simp] theorem State.startAt_sender (s : State) (t : Reading) : (s.startAt t).sender = s.sender := rfl
@[simp] theorem State.startAt_lastSignal (s : State) (t : Reading) : (s.startAt t).lastSignal = s.lastSignal := rfl
@[simp] theorem State.startAt_bearer (s : State) (t : Reading) : (s.startAt t).bearer = s.bearer := rfl
@[simp] theorem State.startAt_radio (s : State) (t : Reading) : (s.startAt t).radio = s.radio := rfl
@[simp] theorem State.startAt_scheduler (s : State) (t : Reading) : (s.startAt t).scheduler = s.scheduler := rfl
@[simp] theorem State.startAt_tunnel (s : State) (t : Reading) : (s.startAt t).tunnel = s.tunnel := rfl
@[simp] theorem State.startAt_carrier (s : State) (t : Reading) : (s.startAt t).carrier = s.carrier := rfl
@[simp] theorem State.startAt_allowance (s : State) (t : Reading) : (s.startAt t).allowance = s.allowance := rfl
@[simp] theorem State.startAt_steering (s : State) (t : Reading) : (s.startAt t).steering = s.steering := rfl
@[simp] theorem State.startAt_service (s : State) (t : Reading) : (s.startAt t).service = s.service := rfl
@[simp] theorem State.startAt_held (s : State) (t : Reading) : (s.startAt t).held = s.held := rfl
@[simp] theorem State.startAt_pool (s : State) (t : Reading) : (s.startAt t).pool = s.pool := rfl
@[simp] theorem State.startAt_premisesAssembly (s : State) (t : Reading) :
    (s.startAt t).premisesAssembly = s.premisesAssembly := rfl
@[simp] theorem State.startAt_egress (s : State) (t : Reading) : (s.startAt t).egress = s.egress := rfl
@[simp] theorem State.startAt_downstream (s : State) (t : Reading) : (s.startAt t).downstream = s.downstream := rfl
@[simp] theorem State.startAt_control (s : State) (t : Reading) : (s.startAt t).control = s.control := rfl
@[simp] theorem State.startAt_notices (s : State) (t : Reading) : (s.startAt t).notices = s.notices := rfl
@[simp] theorem State.startAt_counters (s : State) (t : Reading) : (s.startAt t).counters = s.counters := rfl
@[simp] theorem State.startAt_due (s : State) (t : Reading) : (s.startAt t).due = Due.nothing := rfl
@[simp] theorem State.startAt_pending (s : State) (t : Reading) : (s.startAt t).pending = s.pending := rfl

@[simp] theorem State.reach_now (s : State) (r : Reading) : (s.reach r).now = max s.now r := rfl
@[simp] theorem State.reach_lightLost (s : State) (r : Reading) : (s.reach r).lightLost = s.lightLost := rfl
@[simp] theorem State.reach_factory (s : State) (r : Reading) : (s.reach r).factory = s.factory := rfl
@[simp] theorem State.reach_station (s : State) (r : Reading) : (s.reach r).station = s.station := rfl
@[simp] theorem State.reach_rules (s : State) (r : Reading) : (s.reach r).rules = s.rules := rfl
@[simp] theorem State.reach_classes (s : State) (r : Reading) : (s.reach r).classes = s.classes := rfl
@[simp] theorem State.reach_flows (s : State) (r : Reading) : (s.reach r).flows = s.flows := rfl
@[simp] theorem State.reach_monitor (s : State) (r : Reading) : (s.reach r).monitor = s.monitor := rfl
@[simp] theorem State.reach_probe (s : State) (r : Reading) : (s.reach r).probe = s.probe := rfl
@[simp] theorem State.reach_fibre (s : State) (r : Reading) : (s.reach r).fibre = s.fibre := rfl
@[simp] theorem State.reach_fibreAssembly (s : State) (r : Reading) :
    (s.reach r).fibreAssembly = s.fibreAssembly := rfl
@[simp] theorem State.reach_link (s : State) (r : Reading) : (s.reach r).link = s.link := rfl
@[simp] theorem State.reach_sender (s : State) (r : Reading) : (s.reach r).sender = s.sender := rfl
@[simp] theorem State.reach_lastSignal (s : State) (r : Reading) : (s.reach r).lastSignal = s.lastSignal := rfl
@[simp] theorem State.reach_bearer (s : State) (r : Reading) : (s.reach r).bearer = s.bearer := rfl
@[simp] theorem State.reach_radio (s : State) (r : Reading) : (s.reach r).radio = s.radio := rfl
@[simp] theorem State.reach_scheduler (s : State) (r : Reading) : (s.reach r).scheduler = s.scheduler := rfl
@[simp] theorem State.reach_tunnel (s : State) (r : Reading) : (s.reach r).tunnel = s.tunnel := rfl
@[simp] theorem State.reach_carrier (s : State) (r : Reading) : (s.reach r).carrier = s.carrier := rfl
@[simp] theorem State.reach_allowance (s : State) (r : Reading) : (s.reach r).allowance = s.allowance := rfl
@[simp] theorem State.reach_steering (s : State) (r : Reading) : (s.reach r).steering = s.steering := rfl
@[simp] theorem State.reach_service (s : State) (r : Reading) : (s.reach r).service = s.service := rfl
@[simp] theorem State.reach_held (s : State) (r : Reading) : (s.reach r).held = s.held := rfl
@[simp] theorem State.reach_pool (s : State) (r : Reading) : (s.reach r).pool = s.pool := rfl
@[simp] theorem State.reach_premisesAssembly (s : State) (r : Reading) :
    (s.reach r).premisesAssembly = s.premisesAssembly := rfl
@[simp] theorem State.reach_egress (s : State) (r : Reading) : (s.reach r).egress = s.egress := rfl
@[simp] theorem State.reach_downstream (s : State) (r : Reading) : (s.reach r).downstream = s.downstream := rfl
@[simp] theorem State.reach_control (s : State) (r : Reading) : (s.reach r).control = s.control := rfl
@[simp] theorem State.reach_notices (s : State) (r : Reading) : (s.reach r).notices = s.notices := rfl
@[simp] theorem State.reach_counters (s : State) (r : Reading) : (s.reach r).counters = s.counters := rfl
@[simp] theorem State.reach_due (s : State) (r : Reading) : (s.reach r).due = s.due := rfl
@[simp] theorem State.reach_pending (s : State) (r : Reading) : (s.reach r).pending = s.pending := rfl

@[simp] theorem State.setCounter_now (s : State) (i v : Nat) : (s.setCounter i v).now = s.now := rfl
@[simp] theorem State.setCounter_lightLost (s : State) (i v : Nat) : (s.setCounter i v).lightLost = s.lightLost := rfl
@[simp] theorem State.setCounter_factory (s : State) (i v : Nat) : (s.setCounter i v).factory = s.factory := rfl
@[simp] theorem State.setCounter_station (s : State) (i v : Nat) : (s.setCounter i v).station = s.station := rfl
@[simp] theorem State.setCounter_rules (s : State) (i v : Nat) : (s.setCounter i v).rules = s.rules := rfl
@[simp] theorem State.setCounter_classes (s : State) (i v : Nat) : (s.setCounter i v).classes = s.classes := rfl
@[simp] theorem State.setCounter_flows (s : State) (i v : Nat) : (s.setCounter i v).flows = s.flows := rfl
@[simp] theorem State.setCounter_monitor (s : State) (i v : Nat) : (s.setCounter i v).monitor = s.monitor := rfl
@[simp] theorem State.setCounter_probe (s : State) (i v : Nat) : (s.setCounter i v).probe = s.probe := rfl
@[simp] theorem State.setCounter_fibre (s : State) (i v : Nat) : (s.setCounter i v).fibre = s.fibre := rfl
@[simp] theorem State.setCounter_fibreAssembly (s : State) (i v : Nat) :
    (s.setCounter i v).fibreAssembly = s.fibreAssembly := rfl
@[simp] theorem State.setCounter_link (s : State) (i v : Nat) : (s.setCounter i v).link = s.link := rfl
@[simp] theorem State.setCounter_sender (s : State) (i v : Nat) : (s.setCounter i v).sender = s.sender := rfl
@[simp] theorem State.setCounter_lastSignal (s : State) (i v : Nat) :
    (s.setCounter i v).lastSignal = s.lastSignal := rfl
@[simp] theorem State.setCounter_bearer (s : State) (i v : Nat) : (s.setCounter i v).bearer = s.bearer := rfl
@[simp] theorem State.setCounter_radio (s : State) (i v : Nat) : (s.setCounter i v).radio = s.radio := rfl
@[simp] theorem State.setCounter_scheduler (s : State) (i v : Nat) : (s.setCounter i v).scheduler = s.scheduler := rfl
@[simp] theorem State.setCounter_tunnel (s : State) (i v : Nat) : (s.setCounter i v).tunnel = s.tunnel := rfl
@[simp] theorem State.setCounter_carrier (s : State) (i v : Nat) : (s.setCounter i v).carrier = s.carrier := rfl
@[simp] theorem State.setCounter_allowance (s : State) (i v : Nat) : (s.setCounter i v).allowance = s.allowance := rfl
@[simp] theorem State.setCounter_steering (s : State) (i v : Nat) : (s.setCounter i v).steering = s.steering := rfl
@[simp] theorem State.setCounter_service (s : State) (i v : Nat) : (s.setCounter i v).service = s.service := rfl
@[simp] theorem State.setCounter_held (s : State) (i v : Nat) : (s.setCounter i v).held = s.held := rfl
@[simp] theorem State.setCounter_pool (s : State) (i v : Nat) : (s.setCounter i v).pool = s.pool := rfl
@[simp] theorem State.setCounter_premisesAssembly (s : State) (i v : Nat) :
    (s.setCounter i v).premisesAssembly = s.premisesAssembly := rfl
@[simp] theorem State.setCounter_egress (s : State) (i v : Nat) : (s.setCounter i v).egress = s.egress := rfl
@[simp] theorem State.setCounter_downstream (s : State) (i v : Nat) :
    (s.setCounter i v).downstream = s.downstream := rfl
@[simp] theorem State.setCounter_control (s : State) (i v : Nat) : (s.setCounter i v).control = s.control := rfl
@[simp] theorem State.setCounter_notices (s : State) (i v : Nat) : (s.setCounter i v).notices = s.notices := rfl
@[simp] theorem State.setCounter_counters (s : State) (i v : Nat) :
    (s.setCounter i v).counters = if v = 0 then assocErase i s.counters else assocSet i v s.counters := rfl
@[simp] theorem State.setCounter_due (s : State) (i v : Nat) : (s.setCounter i v).due = s.due := rfl
@[simp] theorem State.setCounter_pending (s : State) (i v : Nat) : (s.setCounter i v).pending = s.pending := rfl

@[simp] theorem State.bumpBy_now (s : State) (i n : Nat) : (s.bumpBy i n).now = s.now := rfl
@[simp] theorem State.bumpBy_lightLost (s : State) (i n : Nat) : (s.bumpBy i n).lightLost = s.lightLost := rfl
@[simp] theorem State.bumpBy_factory (s : State) (i n : Nat) : (s.bumpBy i n).factory = s.factory := rfl
@[simp] theorem State.bumpBy_station (s : State) (i n : Nat) : (s.bumpBy i n).station = s.station := rfl
@[simp] theorem State.bumpBy_rules (s : State) (i n : Nat) : (s.bumpBy i n).rules = s.rules := rfl
@[simp] theorem State.bumpBy_classes (s : State) (i n : Nat) : (s.bumpBy i n).classes = s.classes := rfl
@[simp] theorem State.bumpBy_flows (s : State) (i n : Nat) : (s.bumpBy i n).flows = s.flows := rfl
@[simp] theorem State.bumpBy_monitor (s : State) (i n : Nat) : (s.bumpBy i n).monitor = s.monitor := rfl
@[simp] theorem State.bumpBy_probe (s : State) (i n : Nat) : (s.bumpBy i n).probe = s.probe := rfl
@[simp] theorem State.bumpBy_fibre (s : State) (i n : Nat) : (s.bumpBy i n).fibre = s.fibre := rfl
@[simp] theorem State.bumpBy_fibreAssembly (s : State) (i n : Nat) :
    (s.bumpBy i n).fibreAssembly = s.fibreAssembly := rfl
@[simp] theorem State.bumpBy_link (s : State) (i n : Nat) : (s.bumpBy i n).link = s.link := rfl
@[simp] theorem State.bumpBy_sender (s : State) (i n : Nat) : (s.bumpBy i n).sender = s.sender := rfl
@[simp] theorem State.bumpBy_lastSignal (s : State) (i n : Nat) : (s.bumpBy i n).lastSignal = s.lastSignal := rfl
@[simp] theorem State.bumpBy_bearer (s : State) (i n : Nat) : (s.bumpBy i n).bearer = s.bearer := rfl
@[simp] theorem State.bumpBy_radio (s : State) (i n : Nat) : (s.bumpBy i n).radio = s.radio := rfl
@[simp] theorem State.bumpBy_scheduler (s : State) (i n : Nat) : (s.bumpBy i n).scheduler = s.scheduler := rfl
@[simp] theorem State.bumpBy_tunnel (s : State) (i n : Nat) : (s.bumpBy i n).tunnel = s.tunnel := rfl
@[simp] theorem State.bumpBy_carrier (s : State) (i n : Nat) : (s.bumpBy i n).carrier = s.carrier := rfl
@[simp] theorem State.bumpBy_allowance (s : State) (i n : Nat) : (s.bumpBy i n).allowance = s.allowance := rfl
@[simp] theorem State.bumpBy_steering (s : State) (i n : Nat) : (s.bumpBy i n).steering = s.steering := rfl
@[simp] theorem State.bumpBy_service (s : State) (i n : Nat) : (s.bumpBy i n).service = s.service := rfl
@[simp] theorem State.bumpBy_held (s : State) (i n : Nat) : (s.bumpBy i n).held = s.held := rfl
@[simp] theorem State.bumpBy_pool (s : State) (i n : Nat) : (s.bumpBy i n).pool = s.pool := rfl
@[simp] theorem State.bumpBy_premisesAssembly (s : State) (i n : Nat) :
    (s.bumpBy i n).premisesAssembly = s.premisesAssembly := rfl
@[simp] theorem State.bumpBy_egress (s : State) (i n : Nat) : (s.bumpBy i n).egress = s.egress := rfl
@[simp] theorem State.bumpBy_downstream (s : State) (i n : Nat) : (s.bumpBy i n).downstream = s.downstream := rfl
@[simp] theorem State.bumpBy_control (s : State) (i n : Nat) : (s.bumpBy i n).control = s.control := rfl
@[simp] theorem State.bumpBy_notices (s : State) (i n : Nat) : (s.bumpBy i n).notices = s.notices := rfl
@[simp] theorem State.bumpBy_due (s : State) (i n : Nat) : (s.bumpBy i n).due = s.due := rfl
@[simp] theorem State.bumpBy_pending (s : State) (i n : Nat) : (s.bumpBy i n).pending = s.pending := rfl

@[simp] theorem State.bump_now (s : State) (i : Nat) : (s.bump i).now = s.now := rfl
@[simp] theorem State.bump_lightLost (s : State) (i : Nat) : (s.bump i).lightLost = s.lightLost := rfl
@[simp] theorem State.bump_factory (s : State) (i : Nat) : (s.bump i).factory = s.factory := rfl
@[simp] theorem State.bump_station (s : State) (i : Nat) : (s.bump i).station = s.station := rfl
@[simp] theorem State.bump_rules (s : State) (i : Nat) : (s.bump i).rules = s.rules := rfl
@[simp] theorem State.bump_classes (s : State) (i : Nat) : (s.bump i).classes = s.classes := rfl
@[simp] theorem State.bump_flows (s : State) (i : Nat) : (s.bump i).flows = s.flows := rfl
@[simp] theorem State.bump_monitor (s : State) (i : Nat) : (s.bump i).monitor = s.monitor := rfl
@[simp] theorem State.bump_probe (s : State) (i : Nat) : (s.bump i).probe = s.probe := rfl
@[simp] theorem State.bump_fibre (s : State) (i : Nat) : (s.bump i).fibre = s.fibre := rfl
@[simp] theorem State.bump_fibreAssembly (s : State) (i : Nat) : (s.bump i).fibreAssembly = s.fibreAssembly := rfl
@[simp] theorem State.bump_link (s : State) (i : Nat) : (s.bump i).link = s.link := rfl
@[simp] theorem State.bump_sender (s : State) (i : Nat) : (s.bump i).sender = s.sender := rfl
@[simp] theorem State.bump_lastSignal (s : State) (i : Nat) : (s.bump i).lastSignal = s.lastSignal := rfl
@[simp] theorem State.bump_bearer (s : State) (i : Nat) : (s.bump i).bearer = s.bearer := rfl
@[simp] theorem State.bump_radio (s : State) (i : Nat) : (s.bump i).radio = s.radio := rfl
@[simp] theorem State.bump_scheduler (s : State) (i : Nat) : (s.bump i).scheduler = s.scheduler := rfl
@[simp] theorem State.bump_tunnel (s : State) (i : Nat) : (s.bump i).tunnel = s.tunnel := rfl
@[simp] theorem State.bump_carrier (s : State) (i : Nat) : (s.bump i).carrier = s.carrier := rfl
@[simp] theorem State.bump_allowance (s : State) (i : Nat) : (s.bump i).allowance = s.allowance := rfl
@[simp] theorem State.bump_steering (s : State) (i : Nat) : (s.bump i).steering = s.steering := rfl
@[simp] theorem State.bump_service (s : State) (i : Nat) : (s.bump i).service = s.service := rfl
@[simp] theorem State.bump_held (s : State) (i : Nat) : (s.bump i).held = s.held := rfl
@[simp] theorem State.bump_pool (s : State) (i : Nat) : (s.bump i).pool = s.pool := rfl
@[simp] theorem State.bump_premisesAssembly (s : State) (i : Nat) :
    (s.bump i).premisesAssembly = s.premisesAssembly := rfl
@[simp] theorem State.bump_egress (s : State) (i : Nat) : (s.bump i).egress = s.egress := rfl
@[simp] theorem State.bump_downstream (s : State) (i : Nat) : (s.bump i).downstream = s.downstream := rfl
@[simp] theorem State.bump_control (s : State) (i : Nat) : (s.bump i).control = s.control := rfl
@[simp] theorem State.bump_notices (s : State) (i : Nat) : (s.bump i).notices = s.notices := rfl
@[simp] theorem State.bump_due (s : State) (i : Nat) : (s.bump i).due = s.due := rfl
@[simp] theorem State.bump_pending (s : State) (i : Nat) : (s.bump i).pending = s.pending := rfl

@[simp] theorem State.raise_now (s : State) (c : Cause) : (s.raise c).now = s.now := rfl
@[simp] theorem State.raise_lightLost (s : State) (c : Cause) : (s.raise c).lightLost = s.lightLost := rfl
@[simp] theorem State.raise_factory (s : State) (c : Cause) : (s.raise c).factory = s.factory := rfl
@[simp] theorem State.raise_station (s : State) (c : Cause) : (s.raise c).station = s.station := rfl
@[simp] theorem State.raise_rules (s : State) (c : Cause) : (s.raise c).rules = s.rules := rfl
@[simp] theorem State.raise_classes (s : State) (c : Cause) : (s.raise c).classes = s.classes := rfl
@[simp] theorem State.raise_flows (s : State) (c : Cause) : (s.raise c).flows = s.flows := rfl
@[simp] theorem State.raise_monitor (s : State) (c : Cause) : (s.raise c).monitor = s.monitor := rfl
@[simp] theorem State.raise_probe (s : State) (c : Cause) : (s.raise c).probe = s.probe := rfl
@[simp] theorem State.raise_fibre (s : State) (c : Cause) : (s.raise c).fibre = s.fibre := rfl
@[simp] theorem State.raise_fibreAssembly (s : State) (c : Cause) : (s.raise c).fibreAssembly = s.fibreAssembly := rfl
@[simp] theorem State.raise_link (s : State) (c : Cause) : (s.raise c).link = s.link := rfl
@[simp] theorem State.raise_sender (s : State) (c : Cause) : (s.raise c).sender = s.sender := rfl
@[simp] theorem State.raise_lastSignal (s : State) (c : Cause) : (s.raise c).lastSignal = s.lastSignal := rfl
@[simp] theorem State.raise_bearer (s : State) (c : Cause) : (s.raise c).bearer = s.bearer := rfl
@[simp] theorem State.raise_radio (s : State) (c : Cause) : (s.raise c).radio = s.radio := rfl
@[simp] theorem State.raise_scheduler (s : State) (c : Cause) : (s.raise c).scheduler = s.scheduler := rfl
@[simp] theorem State.raise_tunnel (s : State) (c : Cause) : (s.raise c).tunnel = s.tunnel := rfl
@[simp] theorem State.raise_carrier (s : State) (c : Cause) : (s.raise c).carrier = s.carrier := rfl
@[simp] theorem State.raise_allowance (s : State) (c : Cause) : (s.raise c).allowance = s.allowance := rfl
@[simp] theorem State.raise_steering (s : State) (c : Cause) : (s.raise c).steering = s.steering := rfl
@[simp] theorem State.raise_service (s : State) (c : Cause) : (s.raise c).service = s.service := rfl
@[simp] theorem State.raise_held (s : State) (c : Cause) : (s.raise c).held = s.held := rfl
@[simp] theorem State.raise_pool (s : State) (c : Cause) : (s.raise c).pool = s.pool := rfl
@[simp] theorem State.raise_premisesAssembly (s : State) (c : Cause) :
    (s.raise c).premisesAssembly = s.premisesAssembly := rfl
@[simp] theorem State.raise_egress (s : State) (c : Cause) : (s.raise c).egress = s.egress := rfl
@[simp] theorem State.raise_downstream (s : State) (c : Cause) : (s.raise c).downstream = s.downstream := rfl
@[simp] theorem State.raise_control (s : State) (c : Cause) : (s.raise c).control = s.control := rfl
@[simp] theorem State.raise_notices (s : State) (c : Cause) :
    (s.raise c).notices = { s.notices with causes := s.notices.causes.add c } := rfl
@[simp] theorem State.raise_counters (s : State) (c : Cause) : (s.raise c).counters = s.counters := rfl
@[simp] theorem State.raise_due (s : State) (c : Cause) : (s.raise c).due = { s.due with notice := true } := rfl
@[simp] theorem State.raise_pending (s : State) (c : Cause) : (s.raise c).pending = s.pending := rfl

@[simp] theorem State.setEntry_now (s : State) (i : Nat) (e : FlowEntry) : (s.setEntry i e).now = s.now := rfl
@[simp] theorem State.setEntry_lightLost (s : State) (i : Nat) (e : FlowEntry) :
    (s.setEntry i e).lightLost = s.lightLost := rfl
@[simp] theorem State.setEntry_factory (s : State) (i : Nat) (e : FlowEntry) :
    (s.setEntry i e).factory = s.factory := rfl
@[simp] theorem State.setEntry_station (s : State) (i : Nat) (e : FlowEntry) :
    (s.setEntry i e).station = s.station := rfl
@[simp] theorem State.setEntry_rules (s : State) (i : Nat) (e : FlowEntry) : (s.setEntry i e).rules = s.rules := rfl
@[simp] theorem State.setEntry_classes (s : State) (i : Nat) (e : FlowEntry) :
    (s.setEntry i e).classes = s.classes := rfl
@[simp] theorem State.setEntry_flows (s : State) (i : Nat) (e : FlowEntry) :
    (s.setEntry i e).flows = assocSet i e s.flows := rfl
@[simp] theorem State.setEntry_monitor (s : State) (i : Nat) (e : FlowEntry) :
    (s.setEntry i e).monitor = s.monitor := rfl
@[simp] theorem State.setEntry_probe (s : State) (i : Nat) (e : FlowEntry) : (s.setEntry i e).probe = s.probe := rfl
@[simp] theorem State.setEntry_fibre (s : State) (i : Nat) (e : FlowEntry) : (s.setEntry i e).fibre = s.fibre := rfl
@[simp] theorem State.setEntry_fibreAssembly (s : State) (i : Nat) (e : FlowEntry) :
    (s.setEntry i e).fibreAssembly = s.fibreAssembly := rfl
@[simp] theorem State.setEntry_link (s : State) (i : Nat) (e : FlowEntry) : (s.setEntry i e).link = s.link := rfl
@[simp] theorem State.setEntry_sender (s : State) (i : Nat) (e : FlowEntry) :
    (s.setEntry i e).sender = s.sender := rfl
@[simp] theorem State.setEntry_lastSignal (s : State) (i : Nat) (e : FlowEntry) :
    (s.setEntry i e).lastSignal = s.lastSignal := rfl
@[simp] theorem State.setEntry_bearer (s : State) (i : Nat) (e : FlowEntry) :
    (s.setEntry i e).bearer = s.bearer := rfl
@[simp] theorem State.setEntry_radio (s : State) (i : Nat) (e : FlowEntry) : (s.setEntry i e).radio = s.radio := rfl
@[simp] theorem State.setEntry_scheduler (s : State) (i : Nat) (e : FlowEntry) :
    (s.setEntry i e).scheduler = s.scheduler := rfl
@[simp] theorem State.setEntry_tunnel (s : State) (i : Nat) (e : FlowEntry) :
    (s.setEntry i e).tunnel = s.tunnel := rfl
@[simp] theorem State.setEntry_carrier (s : State) (i : Nat) (e : FlowEntry) :
    (s.setEntry i e).carrier = s.carrier := rfl
@[simp] theorem State.setEntry_allowance (s : State) (i : Nat) (e : FlowEntry) :
    (s.setEntry i e).allowance = s.allowance := rfl
@[simp] theorem State.setEntry_steering (s : State) (i : Nat) (e : FlowEntry) :
    (s.setEntry i e).steering = s.steering := rfl
@[simp] theorem State.setEntry_service (s : State) (i : Nat) (e : FlowEntry) :
    (s.setEntry i e).service = s.service := rfl
@[simp] theorem State.setEntry_held (s : State) (i : Nat) (e : FlowEntry) : (s.setEntry i e).held = s.held := rfl
@[simp] theorem State.setEntry_pool (s : State) (i : Nat) (e : FlowEntry) : (s.setEntry i e).pool = s.pool := rfl
@[simp] theorem State.setEntry_premisesAssembly (s : State) (i : Nat) (e : FlowEntry) :
    (s.setEntry i e).premisesAssembly = s.premisesAssembly := rfl
@[simp] theorem State.setEntry_egress (s : State) (i : Nat) (e : FlowEntry) :
    (s.setEntry i e).egress = s.egress := rfl
@[simp] theorem State.setEntry_downstream (s : State) (i : Nat) (e : FlowEntry) :
    (s.setEntry i e).downstream = s.downstream := rfl
@[simp] theorem State.setEntry_control (s : State) (i : Nat) (e : FlowEntry) :
    (s.setEntry i e).control = s.control := rfl
@[simp] theorem State.setEntry_notices (s : State) (i : Nat) (e : FlowEntry) :
    (s.setEntry i e).notices = s.notices := rfl
@[simp] theorem State.setEntry_counters (s : State) (i : Nat) (e : FlowEntry) :
    (s.setEntry i e).counters = s.counters := rfl
@[simp] theorem State.setEntry_due (s : State) (i : Nat) (e : FlowEntry) : (s.setEntry i e).due = s.due := rfl
@[simp] theorem State.setEntry_pending (s : State) (i : Nat) (e : FlowEntry) :
    (s.setEntry i e).pending = s.pending := rfl

@[simp] theorem State.removeEntry_now (s : State) (i : Nat) : (s.removeEntry i).now = s.now := rfl
@[simp] theorem State.removeEntry_lightLost (s : State) (i : Nat) : (s.removeEntry i).lightLost = s.lightLost := rfl
@[simp] theorem State.removeEntry_factory (s : State) (i : Nat) : (s.removeEntry i).factory = s.factory := rfl
@[simp] theorem State.removeEntry_station (s : State) (i : Nat) : (s.removeEntry i).station = s.station := rfl
@[simp] theorem State.removeEntry_rules (s : State) (i : Nat) : (s.removeEntry i).rules = s.rules := rfl
@[simp] theorem State.removeEntry_classes (s : State) (i : Nat) : (s.removeEntry i).classes = s.classes := rfl
@[simp] theorem State.removeEntry_flows (s : State) (i : Nat) : (s.removeEntry i).flows = assocErase i s.flows := rfl
@[simp] theorem State.removeEntry_monitor (s : State) (i : Nat) : (s.removeEntry i).monitor = s.monitor := rfl
@[simp] theorem State.removeEntry_probe (s : State) (i : Nat) : (s.removeEntry i).probe = s.probe := rfl
@[simp] theorem State.removeEntry_fibre (s : State) (i : Nat) : (s.removeEntry i).fibre = s.fibre := rfl
@[simp] theorem State.removeEntry_fibreAssembly (s : State) (i : Nat) :
    (s.removeEntry i).fibreAssembly = s.fibreAssembly := rfl
@[simp] theorem State.removeEntry_link (s : State) (i : Nat) : (s.removeEntry i).link = s.link := rfl
@[simp] theorem State.removeEntry_sender (s : State) (i : Nat) : (s.removeEntry i).sender = s.sender := rfl
@[simp] theorem State.removeEntry_lastSignal (s : State) (i : Nat) :
    (s.removeEntry i).lastSignal = s.lastSignal := rfl
@[simp] theorem State.removeEntry_bearer (s : State) (i : Nat) : (s.removeEntry i).bearer = s.bearer := rfl
@[simp] theorem State.removeEntry_radio (s : State) (i : Nat) : (s.removeEntry i).radio = s.radio := rfl
@[simp] theorem State.removeEntry_scheduler (s : State) (i : Nat) : (s.removeEntry i).scheduler = s.scheduler := rfl
@[simp] theorem State.removeEntry_tunnel (s : State) (i : Nat) : (s.removeEntry i).tunnel = s.tunnel := rfl
@[simp] theorem State.removeEntry_carrier (s : State) (i : Nat) : (s.removeEntry i).carrier = s.carrier := rfl
@[simp] theorem State.removeEntry_allowance (s : State) (i : Nat) : (s.removeEntry i).allowance = s.allowance := rfl
@[simp] theorem State.removeEntry_steering (s : State) (i : Nat) : (s.removeEntry i).steering = s.steering := rfl
@[simp] theorem State.removeEntry_service (s : State) (i : Nat) : (s.removeEntry i).service = s.service := rfl
@[simp] theorem State.removeEntry_held (s : State) (i : Nat) : (s.removeEntry i).held = s.held := rfl
@[simp] theorem State.removeEntry_pool (s : State) (i : Nat) : (s.removeEntry i).pool = s.pool := rfl
@[simp] theorem State.removeEntry_premisesAssembly (s : State) (i : Nat) :
    (s.removeEntry i).premisesAssembly = s.premisesAssembly := rfl
@[simp] theorem State.removeEntry_egress (s : State) (i : Nat) : (s.removeEntry i).egress = s.egress := rfl
@[simp] theorem State.removeEntry_downstream (s : State) (i : Nat) :
    (s.removeEntry i).downstream = s.downstream := rfl
@[simp] theorem State.removeEntry_control (s : State) (i : Nat) : (s.removeEntry i).control = s.control := rfl
@[simp] theorem State.removeEntry_notices (s : State) (i : Nat) : (s.removeEntry i).notices = s.notices := rfl
@[simp] theorem State.removeEntry_counters (s : State) (i : Nat) : (s.removeEntry i).counters = s.counters := rfl
@[simp] theorem State.removeEntry_due (s : State) (i : Nat) : (s.removeEntry i).due = s.due := rfl
@[simp] theorem State.removeEntry_pending (s : State) (i : Nat) : (s.removeEntry i).pending = s.pending := rfl

@[simp] theorem State.setRadioQueue_now (s : State) (c : TrafficClass) (q : List UpFrame) :
    (s.setRadioQueue c q).now = s.now := rfl
@[simp] theorem State.setRadioQueue_lightLost (s : State) (c : TrafficClass) (q : List UpFrame) :
    (s.setRadioQueue c q).lightLost = s.lightLost := rfl
@[simp] theorem State.setRadioQueue_factory (s : State) (c : TrafficClass) (q : List UpFrame) :
    (s.setRadioQueue c q).factory = s.factory := rfl
@[simp] theorem State.setRadioQueue_station (s : State) (c : TrafficClass) (q : List UpFrame) :
    (s.setRadioQueue c q).station = s.station := rfl
@[simp] theorem State.setRadioQueue_rules (s : State) (c : TrafficClass) (q : List UpFrame) :
    (s.setRadioQueue c q).rules = s.rules := rfl
@[simp] theorem State.setRadioQueue_classes (s : State) (c : TrafficClass) (q : List UpFrame) :
    (s.setRadioQueue c q).classes = s.classes := rfl
@[simp] theorem State.setRadioQueue_flows (s : State) (c : TrafficClass) (q : List UpFrame) :
    (s.setRadioQueue c q).flows = s.flows := rfl
@[simp] theorem State.setRadioQueue_monitor (s : State) (c : TrafficClass) (q : List UpFrame) :
    (s.setRadioQueue c q).monitor = s.monitor := rfl
@[simp] theorem State.setRadioQueue_probe (s : State) (c : TrafficClass) (q : List UpFrame) :
    (s.setRadioQueue c q).probe = s.probe := rfl
@[simp] theorem State.setRadioQueue_fibre (s : State) (c : TrafficClass) (q : List UpFrame) :
    (s.setRadioQueue c q).fibre = s.fibre := rfl
@[simp] theorem State.setRadioQueue_fibreAssembly (s : State) (c : TrafficClass) (q : List UpFrame) :
    (s.setRadioQueue c q).fibreAssembly = s.fibreAssembly := rfl
@[simp] theorem State.setRadioQueue_link (s : State) (c : TrafficClass) (q : List UpFrame) :
    (s.setRadioQueue c q).link = s.link := rfl
@[simp] theorem State.setRadioQueue_sender (s : State) (c : TrafficClass) (q : List UpFrame) :
    (s.setRadioQueue c q).sender = s.sender := rfl
@[simp] theorem State.setRadioQueue_lastSignal (s : State) (c : TrafficClass) (q : List UpFrame) :
    (s.setRadioQueue c q).lastSignal = s.lastSignal := rfl
@[simp] theorem State.setRadioQueue_bearer (s : State) (c : TrafficClass) (q : List UpFrame) :
    (s.setRadioQueue c q).bearer = s.bearer := rfl
@[simp] theorem State.setRadioQueue_radio (s : State) (c : TrafficClass) (q : List UpFrame) :
    (s.setRadioQueue c q).radio = s.radio := rfl
@[simp] theorem State.setRadioQueue_scheduler (s : State) (c : TrafficClass) (q : List UpFrame) :
    (s.setRadioQueue c q).scheduler = { s.scheduler with queues := s.scheduler.queues.set c.val q c.isLt } := rfl
@[simp] theorem State.setRadioQueue_tunnel (s : State) (c : TrafficClass) (q : List UpFrame) :
    (s.setRadioQueue c q).tunnel = s.tunnel := rfl
@[simp] theorem State.setRadioQueue_carrier (s : State) (c : TrafficClass) (q : List UpFrame) :
    (s.setRadioQueue c q).carrier = s.carrier := rfl
@[simp] theorem State.setRadioQueue_allowance (s : State) (c : TrafficClass) (q : List UpFrame) :
    (s.setRadioQueue c q).allowance = s.allowance := rfl
@[simp] theorem State.setRadioQueue_steering (s : State) (c : TrafficClass) (q : List UpFrame) :
    (s.setRadioQueue c q).steering = s.steering := rfl
@[simp] theorem State.setRadioQueue_service (s : State) (c : TrafficClass) (q : List UpFrame) :
    (s.setRadioQueue c q).service = s.service := rfl
@[simp] theorem State.setRadioQueue_held (s : State) (c : TrafficClass) (q : List UpFrame) :
    (s.setRadioQueue c q).held = s.held := rfl
@[simp] theorem State.setRadioQueue_pool (s : State) (c : TrafficClass) (q : List UpFrame) :
    (s.setRadioQueue c q).pool = s.pool := rfl
@[simp] theorem State.setRadioQueue_premisesAssembly (s : State) (c : TrafficClass) (q : List UpFrame) :
    (s.setRadioQueue c q).premisesAssembly = s.premisesAssembly := rfl
@[simp] theorem State.setRadioQueue_egress (s : State) (c : TrafficClass) (q : List UpFrame) :
    (s.setRadioQueue c q).egress = s.egress := rfl
@[simp] theorem State.setRadioQueue_downstream (s : State) (c : TrafficClass) (q : List UpFrame) :
    (s.setRadioQueue c q).downstream = s.downstream := rfl
@[simp] theorem State.setRadioQueue_control (s : State) (c : TrafficClass) (q : List UpFrame) :
    (s.setRadioQueue c q).control = s.control := rfl
@[simp] theorem State.setRadioQueue_notices (s : State) (c : TrafficClass) (q : List UpFrame) :
    (s.setRadioQueue c q).notices = s.notices := rfl
@[simp] theorem State.setRadioQueue_counters (s : State) (c : TrafficClass) (q : List UpFrame) :
    (s.setRadioQueue c q).counters = s.counters := rfl
@[simp] theorem State.setRadioQueue_due (s : State) (c : TrafficClass) (q : List UpFrame) :
    (s.setRadioQueue c q).due = s.due := rfl
@[simp] theorem State.setRadioQueue_pending (s : State) (c : TrafficClass) (q : List UpFrame) :
    (s.setRadioQueue c q).pending = s.pending := rfl

@[simp] theorem State.setCredit_now (s : State) (c : TrafficClass) (v : Int) : (s.setCredit c v).now = s.now := rfl
@[simp] theorem State.setCredit_lightLost (s : State) (c : TrafficClass) (v : Int) :
    (s.setCredit c v).lightLost = s.lightLost := rfl
@[simp] theorem State.setCredit_factory (s : State) (c : TrafficClass) (v : Int) :
    (s.setCredit c v).factory = s.factory := rfl
@[simp] theorem State.setCredit_station (s : State) (c : TrafficClass) (v : Int) :
    (s.setCredit c v).station = s.station := rfl
@[simp] theorem State.setCredit_rules (s : State) (c : TrafficClass) (v : Int) :
    (s.setCredit c v).rules = s.rules := rfl
@[simp] theorem State.setCredit_classes (s : State) (c : TrafficClass) (v : Int) :
    (s.setCredit c v).classes = s.classes := rfl
@[simp] theorem State.setCredit_flows (s : State) (c : TrafficClass) (v : Int) :
    (s.setCredit c v).flows = s.flows := rfl
@[simp] theorem State.setCredit_monitor (s : State) (c : TrafficClass) (v : Int) :
    (s.setCredit c v).monitor = s.monitor := rfl
@[simp] theorem State.setCredit_probe (s : State) (c : TrafficClass) (v : Int) :
    (s.setCredit c v).probe = s.probe := rfl
@[simp] theorem State.setCredit_fibre (s : State) (c : TrafficClass) (v : Int) :
    (s.setCredit c v).fibre = s.fibre := rfl
@[simp] theorem State.setCredit_fibreAssembly (s : State) (c : TrafficClass) (v : Int) :
    (s.setCredit c v).fibreAssembly = s.fibreAssembly := rfl
@[simp] theorem State.setCredit_link (s : State) (c : TrafficClass) (v : Int) : (s.setCredit c v).link = s.link := rfl
@[simp] theorem State.setCredit_sender (s : State) (c : TrafficClass) (v : Int) :
    (s.setCredit c v).sender = s.sender := rfl
@[simp] theorem State.setCredit_lastSignal (s : State) (c : TrafficClass) (v : Int) :
    (s.setCredit c v).lastSignal = s.lastSignal := rfl
@[simp] theorem State.setCredit_bearer (s : State) (c : TrafficClass) (v : Int) :
    (s.setCredit c v).bearer = s.bearer := rfl
@[simp] theorem State.setCredit_radio (s : State) (c : TrafficClass) (v : Int) :
    (s.setCredit c v).radio = s.radio := rfl
@[simp] theorem State.setCredit_scheduler (s : State) (c : TrafficClass) (v : Int) :
    (s.setCredit c v).scheduler = { s.scheduler with credit := s.scheduler.credit.set c.val v c.isLt } := rfl
@[simp] theorem State.setCredit_tunnel (s : State) (c : TrafficClass) (v : Int) :
    (s.setCredit c v).tunnel = s.tunnel := rfl
@[simp] theorem State.setCredit_carrier (s : State) (c : TrafficClass) (v : Int) :
    (s.setCredit c v).carrier = s.carrier := rfl
@[simp] theorem State.setCredit_allowance (s : State) (c : TrafficClass) (v : Int) :
    (s.setCredit c v).allowance = s.allowance := rfl
@[simp] theorem State.setCredit_steering (s : State) (c : TrafficClass) (v : Int) :
    (s.setCredit c v).steering = s.steering := rfl
@[simp] theorem State.setCredit_service (s : State) (c : TrafficClass) (v : Int) :
    (s.setCredit c v).service = s.service := rfl
@[simp] theorem State.setCredit_held (s : State) (c : TrafficClass) (v : Int) : (s.setCredit c v).held = s.held := rfl
@[simp] theorem State.setCredit_pool (s : State) (c : TrafficClass) (v : Int) : (s.setCredit c v).pool = s.pool := rfl
@[simp] theorem State.setCredit_premisesAssembly (s : State) (c : TrafficClass) (v : Int) :
    (s.setCredit c v).premisesAssembly = s.premisesAssembly := rfl
@[simp] theorem State.setCredit_egress (s : State) (c : TrafficClass) (v : Int) :
    (s.setCredit c v).egress = s.egress := rfl
@[simp] theorem State.setCredit_downstream (s : State) (c : TrafficClass) (v : Int) :
    (s.setCredit c v).downstream = s.downstream := rfl
@[simp] theorem State.setCredit_control (s : State) (c : TrafficClass) (v : Int) :
    (s.setCredit c v).control = s.control := rfl
@[simp] theorem State.setCredit_notices (s : State) (c : TrafficClass) (v : Int) :
    (s.setCredit c v).notices = s.notices := rfl
@[simp] theorem State.setCredit_counters (s : State) (c : TrafficClass) (v : Int) :
    (s.setCredit c v).counters = s.counters := rfl
@[simp] theorem State.setCredit_due (s : State) (c : TrafficClass) (v : Int) : (s.setCredit c v).due = s.due := rfl
@[simp] theorem State.setCredit_pending (s : State) (c : TrafficClass) (v : Int) :
    (s.setCredit c v).pending = s.pending := rfl

end Sys2Proof.Machine
end

