-- ==== Sys2Proof/Laws/Kept.lean ====
section
/-! SUPPORT. The part of the state that the end of an event never changes, and one lemma for each shared operation saying
what the operation does to it: nothing, for all of them but those of the last sections. -/

namespace Sys2Proof.Machine

/-- A fold of operations that keep a view keeps it. -/
theorem foldl_keeps {σ α β : Type} (view : σ → β) (f : σ → α → σ) (h : ∀ s x, view (f s x) = view s) (l : List α)
    (s : σ) : view (l.foldl f s) = view s := by
  induction l generalizing s with
  | nil => rfl
  | cons x l ih => exact (ih _).trans (h s x)

/-! ## The shared operations -/

@[simp] theorem State.setCounter_kept (s : State) (i v : Nat) : (s.setCounter i v).kept = s.kept := rfl
@[simp] theorem State.bumpBy_kept (s : State) (i n : Nat) : (s.bumpBy i n).kept = s.kept := rfl
@[simp] theorem State.bump_kept (s : State) (i : Nat) : (s.bump i).kept = s.kept := rfl
@[simp] theorem State.raise_kept (s : State) (c : Cause) : (s.raise c).kept = s.kept := rfl
@[simp] theorem State.setEntry_kept (s : State) (i : Nat) (e : FlowEntry) : (s.setEntry i e).kept = s.kept := rfl
@[simp] theorem State.removeEntry_kept (s : State) (i : Nat) : (s.removeEntry i).kept = s.kept := rfl
@[simp] theorem State.setRadioQueue_kept (s : State) (c : TrafficClass) (q : List UpFrame) :
    (s.setRadioQueue c q).kept = s.kept := rfl
@[simp] theorem State.setCredit_kept (s : State) (c : TrafficClass) (v : Int) : (s.setCredit c v).kept = s.kept := rfl
@[simp] theorem State.requestBearer_kept (s : State) (k : BearerRecord) : (s.requestBearer k).kept = s.kept := rfl

@[simp] theorem State.poolTest_kept (s : State) : s.poolTest.kept = s.kept := by
  unfold State.poolTest
  split <;> split <;> rfl

@[simp] theorem State.takeCells_kept (s : State) (n : Nat) : (s.takeCells n).kept = s.kept :=
  (State.poolTest_kept _).trans rfl

@[simp] theorem State.returnCells_kept (s : State) (n : Nat) : (s.returnCells n).kept = s.kept := by
  unfold State.returnCells
  split
  · rfl
  · exact (State.poolTest_kept _).trans rfl

@[simp] theorem State.modifyEntry_kept (s : State) (i : Nat) (g : FlowEntry → FlowEntry) :
    (s.modifyEntry i g).kept = s.kept := by
  unfold State.modifyEntry
  split <;> rfl

@[simp] theorem State.raisePending_kept (s : State) (p : Uplink) (i : Option Nat) :
    (s.raisePending p i).kept = s.kept := by
  unfold State.raisePending
  split
  · exact State.modifyEntry_kept _ _ _
  · rfl

@[simp] theorem State.lowerPending_kept (s : State) (p : Uplink) (i : Option Nat) :
    (s.lowerPending p i).kept = s.kept := by
  unfold State.lowerPending
  split
  · exact State.modifyEntry_kept _ _ _
  · rfl

@[simp] theorem State.setRadioState_kept (s : State) (r : RadioState) : (s.setRadioState r).kept = s.kept := by
  unfold State.setRadioState
  split <;> rfl

@[simp] theorem State.tryOpen_kept (s : State) : s.tryOpen.kept = s.kept := by
  unfold State.tryOpen
  split
  · exact (State.setRadioState_kept _ _).trans rfl
  · rfl

@[simp] theorem State.endLinger_kept (s : State) : s.endLinger.kept = s.kept := by
  unfold State.endLinger
  split
  · exact (State.setRadioState_kept _ _).trans rfl
  · rfl

@[simp] theorem State.enterReady_kept (s : State) : s.enterReady.kept = s.kept :=
  (State.tryOpen_kept _).trans (State.setRadioState_kept s .ready)

@[simp] theorem State.admissionChange_kept (before s : State) : (State.admissionChange before s).kept = s.kept := by
  unfold State.admissionChange
  split
  · dsimp only
    split
    · exact (State.tryOpen_kept _).trans ((State.endLinger_kept _).trans rfl)
    · rfl
  · rfl

@[simp] theorem State.refuseFrame_kept (s : State) (f : UpFrame) (r : AdmissionRefusal) :
    (s.refuseFrame f r).kept = s.kept := (State.returnCells_kept _ _).trans rfl

@[simp] theorem State.joinFibre_kept (s : State) (f : UpFrame) : (s.joinFibre f).kept = s.kept :=
  (State.raisePending_kept _ _ _).trans rfl

@[simp] theorem State.joinRadio_kept (s : State) (c : TrafficClass) (f : UpFrame) :
    (s.joinRadio c f).kept = s.kept := by
  unfold State.joinRadio
  dsimp only
  split
  · exact (State.tryOpen_kept _).trans ((State.endLinger_kept _).trans ((State.raisePending_kept _ _ _).trans rfl))
  · exact (State.raisePending_kept _ _ _).trans rfl

@[simp] theorem State.sendFibre_kept (s : State) (f : UpFrame) : (s.sendFibre f).kept = s.kept := by
  unfold State.sendFibre
  split <;> simp

@[simp] theorem State.sendRadio_kept (s : State) (c : TrafficClass) (f : UpFrame) :
    (s.sendRadio c f).kept = s.kept := by
  unfold State.sendRadio
  split <;> simp

@[simp] theorem State.sendTo_kept (s : State) (p : Uplink) (c : TrafficClass) (f : UpFrame) :
    (s.sendTo p c f).kept = s.kept := by
  unfold State.sendTo
  split <;> simp

/-! ## The Drain Unit -/

@[simp] theorem State.releaseOne_kept (s : State) (i : Nat) (p : Uplink) (c : TrafficClass) (f : UpFrame) :
    (s.releaseOne i p c f).kept = s.kept := by simp [State.releaseOne]

@[simp] theorem State.releaseHeld_kept (s : State) (i : Nat) (p : Uplink) (c : TrafficClass) :
    (s.releaseHeld i p c).kept = s.kept :=
  (foldl_keeps State.kept _ (fun s f => State.releaseOne_kept s i p c f) _ _).trans rfl

@[simp] theorem State.settleEntry_kept (s : State) (i : Nat) (u : Uplink) : (s.settleEntry i u).kept = s.kept :=
  State.modifyEntry_kept _ _ _

@[simp] theorem State.completeMove_kept (s : State) (i : Nat) : (s.completeMove i).kept = s.kept := by
  unfold State.completeMove
  split
  · split <;> simp
  · rfl

@[simp] theorem State.handOver_kept (s : State) (p : Uplink) (i : Option Nat) : (s.handOver p i).kept = s.kept := by
  unfold State.handOver
  split
  · split
    · split
      · exact State.completeMove_kept _ _
      · rfl
    · rfl
  · rfl

@[simp] theorem State.frameGone_kept (s : State) (p : Uplink) (f : UpFrame) : (s.frameGone p f).kept = s.kept := by
  simp [State.frameGone]

@[simp] theorem State.drainDiscard_kept (p : Uplink) (c : TrafficClass) (s : State) (f : UpFrame) :
    (State.drainDiscard p c s f).kept = s.kept := by simp [State.drainDiscard]

@[simp] theorem State.discardWaiting_kept (s : State) (i : Nat) (p : Uplink) (c : TrafficClass) :
    (s.discardWaiting i p c).kept = s.kept := by
  unfold State.discardWaiting
  split
  · exact (foldl_keeps State.kept _ (fun s f => State.drainDiscard_kept _ c s f) _ _).trans rfl
  · exact (foldl_keeps State.kept _ (fun s f => State.drainDiscard_kept _ c s f) _ _).trans rfl

@[simp] theorem State.holdFrame_kept (s : State) (i : Nat) (c : TrafficClass) (f : UpFrame) :
    (s.holdFrame i c f).kept = s.kept := by
  unfold State.holdFrame
  split
  · exact (State.modifyEntry_kept _ _ _).trans rfl
  · simp

@[simp] theorem State.immediateMove_kept (s : State) (i : Nat) (c : TrafficClass) (t : Uplink) (f : UpFrame) :
    (s.immediateMove i c t f).kept = s.kept := by simp [State.immediateMove]

@[simp] theorem State.beginDrain_kept (s : State) (i : Nat) (m : Move) : (s.beginDrain i m).kept = s.kept := by
  simp [State.beginDrain]

@[simp] theorem State.startMove_kept (s : State) (i : Nat) (e : FlowEntry) (t : Uplink) (f : UpFrame) :
    (s.startMove i e t f).kept = s.kept := by
  unfold State.startMove
  dsimp only
  split
  · simp
  · split
    · split <;> simp
    · simp

@[simp] theorem State.reverseMove_kept (s : State) (i : Nat) (e : FlowEntry) (f : UpFrame) :
    (s.reverseMove i e f).kept = s.kept := by simp [State.reverseMove]

@[simp] theorem State.placeLearned_kept (s : State) (i : Nat) (e : FlowEntry) (t : Uplink) (f : UpFrame) :
    (s.placeLearned i e t f).kept = s.kept := by
  unfold State.placeLearned
  split <;> split <;> simp

@[simp] theorem State.cancelMove_kept (s : State) (i : Nat) : (s.cancelMove i).kept = s.kept := by
  unfold State.cancelMove
  split
  · split
    · split
      · simp
      · rfl
    · rfl
  · rfl

@[simp] theorem State.expireDrain_kept (s : State) (i : Nat) (e : FlowEntry) (m : Move) :
    (s.expireDrain i e m).kept = s.kept := by
  unfold State.expireDrain
  dsimp only
  split <;> simp

@[simp] theorem State.unstage_kept (s : State) : s.unstage.kept = s.kept := by
  unfold State.unstage
  split
  · rfl
  · split
    · rfl
    · dsimp only
      split
      · simp only [State.frameGone_kept, State.bump_kept, State.returnCells_kept, State.setCredit_kept]
        rfl
      · rfl

/-! ## The scheduler, the Carrier Unit and the transmit side -/

@[simp] theorem State.acceptGrant_kept (s : State) (g p : Nat) : (s.acceptGrant g p).kept = s.kept := by
  unfold State.acceptGrant
  dsimp only
  split <;> rfl

@[simp] theorem State.clearRadioSide_kept (s : State) : s.clearRadioSide.kept = s.kept := rfl
@[simp] theorem State.refill_kept (s : State) : s.refill.kept = s.kept := rfl

@[simp] theorem State.sojournDiscard_kept (c : TrafficClass) (s : State) (f : UpFrame) :
    (State.sojournDiscard c s f).kept = s.kept := by simp [State.sojournDiscard]

@[simp] theorem State.examineHead_kept (s : State) (c : TrafficClass) : (s.examineHead c).kept = s.kept :=
  (foldl_keeps State.kept _ (fun s f => State.sojournDiscard_kept c s f) _ _).trans rfl

@[simp] theorem State.examineHeads_kept (s : State) : s.examineHeads.kept = s.kept :=
  foldl_keeps State.kept _ State.examineHead_kept _ _

@[simp] theorem State.stage_kept (s : State) (c : TrafficClass) (f : UpFrame) (rest : List UpFrame) :
    (s.stage c f rest).kept = s.kept := (State.endLinger_kept _).trans rfl

@[simp] theorem State.selection_kept (s : State) : s.selection.kept = s.kept := by
  unfold State.selection
  dsimp only
  split
  · simp
  · split
    · simp
    · rw [State.stage_kept]
      split <;> simp

@[simp] theorem State.trySelect_kept (s : State) : s.trySelect.kept = s.kept := by
  unfold State.trySelect
  split
  · dsimp only
    split
    · exact (State.selection_kept _).trans rfl
    · rfl
  · rfl

@[simp] theorem State.beginBearer_kept (s : State) (k : BearerRecord) : (s.beginBearer k).kept = s.kept := rfl
@[simp] theorem State.beginData_kept (s : State) (f : UpFrame) : (s.beginData f).kept = s.kept := rfl

@[simp] theorem State.noteGrantWait_kept (s : State) (f : UpFrame) : (s.noteGrantWait f).kept = s.kept := by
  unfold State.noteGrantWait
  split <;> rfl

@[simp] theorem State.beginTransfer_kept (s : State) : s.beginTransfer.kept = s.kept := by
  unfold State.beginTransfer
  split
  · split
    · rfl
    · split
      · rfl
      · split <;> simp
  · rfl

@[simp] theorem State.tryTransfer_kept (s : State) : s.tryTransfer.kept = s.kept := by
  unfold State.tryTransfer
  split
  · exact (State.beginTransfer_kept _).trans rfl
  · rfl

@[simp] theorem State.pumpRadio_kept (s : State) : s.pumpRadio.kept = s.kept := by simp [State.pumpRadio]

/-! ## The mode -/

@[simp] theorem State.changeMode_kept (s : State) (m : Mode) : (s.changeMode m).kept = s.kept := by
  unfold State.changeMode
  split <;> rfl

@[simp] theorem State.flushOne_kept (s : State) (f : UpFrame) : (s.flushOne f).kept = s.kept := by
  simp [State.flushOne]

@[simp] theorem State.flushFibre_kept (s : State) : s.flushFibre.kept = s.kept :=
  (foldl_keeps State.kept _ (fun s f => State.handOver_kept s .fibre (UpFrame.flow f)) _ _).trans
    ((foldl_keeps State.kept _ State.flushOne_kept _ _).trans rfl)

@[simp] theorem State.cancelMoves_kept (s : State) : s.cancelMoves.kept = s.kept :=
  foldl_keeps State.kept _ State.cancelMove_kept _ _

@[simp] theorem State.fibreOutTest_kept (s : State) : s.fibreOutTest.kept = s.kept := by
  unfold State.fibreOutTest
  split
  · split
    · rfl
    · rw [State.bump_kept, State.cancelMoves_kept, State.flushFibre_kept]
      rfl
  · rfl

@[simp] theorem State.recomputeMode_kept (s : State) : s.recomputeMode.kept = s.kept := by simp [State.recomputeMode]

@[simp] theorem State.tryMode_kept (s : State) : s.tryMode.kept = s.kept := by
  unfold State.tryMode
  split
  · exact (State.recomputeMode_kept _).trans rfl
  · rfl

/-! ## The end of an event -/

@[simp] theorem State.beginFibre_kept (s : State) : s.beginFibre.kept = s.kept := by
  unfold State.beginFibre
  split
  · split
    · rfl
    · split
      · split <;> rfl
      · rfl
  · rfl

@[simp] theorem State.tryFibre_kept (s : State) : s.tryFibre.kept = s.kept := by
  unfold State.tryFibre
  split
  · exact (State.beginFibre_kept _).trans rfl
  · rfl

@[simp] theorem State.beginPremises_kept (s : State) : s.beginPremises.kept = s.kept := by
  unfold State.beginPremises
  split
  · split <;> rfl
  · rfl

@[simp] theorem State.tryPremises_kept (s : State) : s.tryPremises.kept = s.kept := by
  unfold State.tryPremises
  split
  · exact (State.beginPremises_kept _).trans rfl
  · rfl

@[simp] theorem State.writeNotice_kept (s : State) : s.writeNotice.kept = s.kept :=
  (State.takeCells_kept _ _).trans rfl

@[simp] theorem State.noticeTest_kept (s : State) : s.noticeTest.kept = s.kept := by
  unfold State.noticeTest
  split <;> simp

@[simp] theorem State.tryNotice_kept (s : State) : s.tryNotice.kept = s.kept := by
  unfold State.tryNotice
  split
  · exact (State.noticeTest_kept _).trans rfl
  · rfl

/-- The end of an event leaves all of it alone. -/
@[simp] theorem State.settle_kept (s : State) : s.settle.kept = s.kept := by
  show (State.kept _) = _
  exact (show State.kept s.settle = s.tryMode.pumpRadio.tryFibre.tryPremises.tryNotice.tryPremises.kept from rfl).trans
    (by simp)

/-- Nothing is owed when an event has ended (log 4). -/
@[simp] theorem State.settle_due (s : State) : s.settle.due = Due.nothing := rfl

section
variable (s : State)
@[simp] theorem State.settle_now : s.settle.now = s.now := congrArg Kept.now s.settle_kept
@[simp] theorem State.settle_lightLost : s.settle.lightLost = s.lightLost := congrArg Kept.lightLost s.settle_kept
@[simp] theorem State.settle_factory : s.settle.factory = s.factory := congrArg Kept.factory s.settle_kept
@[simp] theorem State.settle_station : s.settle.station = s.station := congrArg Kept.station s.settle_kept
@[simp] theorem State.settle_rules : s.settle.rules = s.rules := congrArg Kept.rules s.settle_kept
@[simp] theorem State.settle_classes : s.settle.classes = s.classes := congrArg Kept.classes s.settle_kept
@[simp] theorem State.settle_monitor : s.settle.monitor = s.monitor := congrArg Kept.monitor s.settle_kept
@[simp] theorem State.settle_probe : s.settle.probe = s.probe := congrArg Kept.probe s.settle_kept
@[simp] theorem State.settle_fibreAssembly : s.settle.fibreAssembly = s.fibreAssembly :=
  congrArg Kept.fibreAssembly s.settle_kept
@[simp] theorem State.settle_link : s.settle.link = s.link := congrArg Kept.link s.settle_kept
@[simp] theorem State.settle_lastSignal : s.settle.lastSignal = s.lastSignal := congrArg Kept.lastSignal s.settle_kept
@[simp] theorem State.settle_radio : s.settle.radio = s.radio := congrArg Kept.radio s.settle_kept
@[simp] theorem State.settle_tunnel : s.settle.tunnel = s.tunnel := congrArg Kept.tunnel s.settle_kept
@[simp] theorem State.settle_expected : s.settle.carrier.expected = s.carrier.expected :=
  congrArg Kept.expected s.settle_kept
@[simp] theorem State.settle_allowance : s.settle.allowance = s.allowance := congrArg Kept.allowance s.settle_kept
@[simp] theorem State.settle_steering : s.settle.steering = s.steering := congrArg Kept.steering s.settle_kept
@[simp] theorem State.settle_premisesAssembly : s.settle.premisesAssembly = s.premisesAssembly :=
  congrArg Kept.premisesAssembly s.settle_kept
@[simp] theorem State.settle_downstream : s.settle.downstream = s.downstream := congrArg Kept.downstream s.settle_kept
@[simp] theorem State.settle_control : s.settle.control = s.control := congrArg Kept.control s.settle_kept
@[simp] theorem State.settle_pending : s.settle.pending = s.pending := congrArg Kept.pending s.settle_kept
end

end Sys2Proof.Machine
end

