-- ==== Sys2Proof/Laws/Settle.lean ====
section
/-! SUPPORT. The end of an event where little or nothing is owed. -/

namespace Sys2Proof.Machine

theorem State.tryMode_of_not {s : State} (h : s.due.mode = false) : s.tryMode = s := by simp [State.tryMode, h]
theorem State.tryTransfer_of_not {s : State} (h : s.due.transfer = false) : s.tryTransfer = s := by
  simp [State.tryTransfer, h]
theorem State.trySelect_of_not {s : State} (h : s.due.select = false) : s.trySelect = s := by
  simp [State.trySelect, h]
theorem State.tryFibre_of_not {s : State} (h : s.due.fibre = false) : s.tryFibre = s := by simp [State.tryFibre, h]
theorem State.tryPremises_of_not {s : State} (h : s.due.premises = false) : s.tryPremises = s := by
  simp [State.tryPremises, h]
theorem State.tryNotice_of_not {s : State} (h : s.due.notice = false) : s.tryNotice = s := by
  simp [State.tryNotice, h]

theorem State.pumpRadio_of_not {s : State} (ht : s.due.transfer = false) (hs : s.due.select = false) :
    s.pumpRadio = s := by
  simp [State.pumpRadio, State.tryTransfer_of_not ht, State.trySelect_of_not hs]

/-- An event that owes nothing ends as it stands. -/
theorem State.settle_of_nothing {s : State} (h : s.due = Due.nothing) : s.settle = s := by
  have hd : ∀ b : Due → Bool, b Due.nothing = false → b s.due = false := fun b hb => h ▸ hb
  unfold State.settle
  simp only [State.tryMode_of_not (hd Due.mode rfl), State.pumpRadio_of_not (hd Due.transfer rfl) (hd Due.select rfl),
    State.tryFibre_of_not (hd Due.fibre rfl), State.tryPremises_of_not (hd Due.premises rfl),
    State.tryNotice_of_not (hd Due.notice rfl)]
  rw [← h]

/-- With the notice address zero no notice is ready (R181). -/
theorem State.noticeReady_off {s : State} (h : s.station.noticeAddress = 0) : s.noticeReady = false := by
  simp [State.noticeReady, h]

/-- With the notice address zero the notice test writes nothing (R181). -/
theorem State.tryNotice_off {s : State} (h : s.station.noticeAddress = 0) :
    s.tryNotice = { s with due := { s.due with notice := false } } := by
  unfold State.tryNotice
  split
  · have : State.noticeReady { s with due := { s.due with notice := false } } = false := State.noticeReady_off h
    simp [State.noticeTest, this]
  · rename_i hd
    have : s.due.notice = false := by simpa using hd
    rw [← this]

/-- An event that owes at most a notice test ends without one while notices are off. -/
theorem State.settle_off {s : State} (hm : s.due.mode = false) (ht : s.due.transfer = false)
    (hs : s.due.select = false) (hf : s.due.fibre = false) (hp : s.due.premises = false)
    (h : s.station.noticeAddress = 0) : s.settle = { s with due := Due.nothing } := by
  unfold State.settle
  simp only [State.tryMode_of_not hm, State.pumpRadio_of_not ht hs, State.tryFibre_of_not hf,
    State.tryPremises_of_not hp, State.tryNotice_off h]
  rw [State.tryPremises_of_not (by exact hp)]

end Sys2Proof.Machine
end

