-- ==== Sys2Proof/Laws/Ending.lean ====
section
/-! SUPPORT. How an event ends: all that it owes but a notice, and then a notice if the four conditions hold. -/

namespace Sys2Proof.Machine

/-! ## A state apart from what is owed -/

theorem State.undue_eq {s t : State} (h : s.undue = t.undue) : s = { t with due := s.due } := by
  cases s; cases t
  simp only [State.undue, State.mk.injEq] at h
  simp [h]

/-- What is owed does not bear on what the arbiter begins. -/
theorem State.beginPremises_undue (s : State) : s.beginPremises.undue = s.undue.beginPremises.undue := by
  have hc : s.undue.arbiterChoice = s.arbiterChoice := rfl
  have he : s.undue.egress = s.egress := rfl
  unfold State.beginPremises
  rw [hc, he]
  split
  · split <;> rfl
  · rfl

/-- What is owed does not bear on the POOL test. -/
theorem State.poolTest_undue (s : State) : s.poolTest.undue = s.undue.poolTest.undue := by
  have hp : s.undue.pool = s.pool := rfl
  have hf : s.undue.station = s.station := rfl
  unfold State.poolTest
  rw [hp, hf]
  split
  · split <;> rfl
  · split <;> rfl

/-- What is owed does not bear on a notice. -/
theorem State.writeNotice_undue (s : State) : s.writeNotice.undue = s.undue.writeNotice.undue := by
  unfold State.writeNotice State.takeCells
  rw [State.poolTest_undue]
  conv => rhs; rw [State.poolTest_undue]
  rfl

theorem State.noticeReady_undue (s : State) : s.undue.noticeReady = s.noticeReady := rfl

theorem State.poolTest_due_premises (s : State) : s.poolTest.due.premises = s.due.premises := by
  unfold State.poolTest
  split
  · split <;> rfl
  · split <;> rfl

/-- Writing a notice owes a choice of the premises arbiter. -/
theorem State.writeNotice_due_premises (s : State) : s.writeNotice.due.premises = true :=
  (State.poolTest_due_premises _).trans rfl

theorem State.tryPremises_undue (s : State) (h : s.due.premises = true) :
    s.tryPremises.undue = s.undue.beginPremises.undue := by
  unfold State.tryPremises
  rw [if_pos h, State.beginPremises_undue]
  rfl

theorem State.noticed_eq (s : State) : s.noticed = s.writeNotice.undue.beginPremises.undue := by
  rw [← State.beginPremises_undue]
  rfl

/-- With no choice of the arbiter owed, what is left of an event is its notice test. -/
theorem State.tryNotice_tryPremises (s : State) (hp : s.due.premises = false) :
    s.tryNotice.tryPremises.undue = s.undue ∨
      (s.noticeReady = true ∧ s.tryNotice.tryPremises.undue = s.undue.noticed) := by
  unfold State.tryNotice State.noticeTest
  split
  · split
    · rename_i hn
      right
      refine ⟨hn, ?_⟩
      rw [State.tryPremises_undue _ (State.writeNotice_due_premises _), State.writeNotice_undue, State.noticed_eq]
      rfl
    · left
      rw [State.tryPremises_of_not (by exact hp)]
      rfl
  · left
    rw [State.tryPremises_of_not hp]

/-- All that an event owes but its notice. -/
def State.atRest (s : State) : State := { s.tryMode.pumpRadio.tryFibre.tryPremises with due := Due.nothing }

theorem State.tryPremises_due_premises (s : State) : s.tryPremises.due.premises = false := by
  unfold State.tryPremises
  split
  · unfold State.beginPremises
    split
    · split <;> rfl
    · rfl
  · rename_i h
    simpa using h

/-- An event ends at rest, or with a notice after it where the four conditions of a notice then hold (R181). -/
theorem State.settle_cases (s : State) :
    s.settle = s.atRest ∨ (s.atRest.noticeReady = true ∧ s.settle = s.atRest.noticed) := by
  rcases State.tryNotice_tryPremises s.tryMode.pumpRadio.tryFibre.tryPremises (State.tryPremises_due_premises _) with
    h | ⟨h, h'⟩
  · exact .inl h
  · exact .inr ⟨h, h'⟩

/-- A command whose effect comes to rest in a state leads to it. -/
theorem LeadsTo.of_done {c : Instr} {s s' e : State} (h : exec c s = s'.done) (he : s'.atRest = e) : LeadsTo c s e := by
  subst he
  rcases s'.settle_cases with hs | ⟨hn, hs⟩
  · exact .inl (h.trans (by rw [State.done, hs]))
  · exact .inr ⟨hn, h.trans (by rw [State.done, hs])⟩

/-- An event that owes at most a notice is at rest as it stands. -/
theorem State.atRest_of_quiet {s : State} (hm : s.due.mode = false) (ht : s.due.transfer = false)
    (hs : s.due.select = false) (hf : s.due.fibre = false) (hp : s.due.premises = false) :
    s.atRest = { s with due := Due.nothing } := by
  unfold State.atRest
  rw [State.tryMode_of_not hm, State.pumpRadio_of_not ht hs, State.tryFibre_of_not hf, State.tryPremises_of_not hp]

end Sys2Proof.Machine
end

