-- ==== Sys2Proof/Laws/Tables.lean ====
section
/-! SUPPORT. Sorted tables of a natural number key, and the counters held in one. -/

namespace Sys2Proof.Machine

variable {α : Type}

@[simp] theorem assocGet_nil (k : Nat) : assocGet (α := α) k [] = none := rfl

theorem assocGet_cons (k : Nat) (p : Nat × α) (t : List (Nat × α)) :
    assocGet k (p :: t) = if k = p.1 then some p.2 else assocGet k t := rfl

@[simp] theorem assocSorted_nil : assocSorted (α := α) [] := List.Pairwise.nil

theorem assocSorted_cons {p : Nat × α} {t : List (Nat × α)} :
    assocSorted (p :: t) ↔ (∀ q ∈ t, p.1 < q.1) ∧ assocSorted t := List.pairwise_cons

/-- A key below every key of a table is not in it. -/
theorem assocGet_none_of_lt {k : Nat} {t : List (Nat × α)} (h : ∀ p ∈ t, k < p.1) : assocGet k t = none := by
  induction t with
  | nil => rfl
  | cons p t ih =>
    rw [assocGet_cons, if_neg (Nat.ne_of_lt (h p List.mem_cons_self))]
    exact ih fun q hq => h q (List.mem_cons_of_mem _ hq)

/-- A value that a table gives at a key is listed there. -/
theorem mem_of_assocGet {k : Nat} {v : α} {t : List (Nat × α)} (h : assocGet k t = some v) : (k, v) ∈ t := by
  induction t with
  | nil => simp at h
  | cons p t ih =>
    rw [assocGet_cons] at h
    split at h
    · rename_i hk
      cases h
      exact hk ▸ List.mem_cons_self
    · exact List.mem_cons_of_mem _ (ih h)

/-- A sorted table gives at a key the value listed there. -/
theorem assocGet_of_mem {k : Nat} {v : α} {t : List (Nat × α)} (hs : assocSorted t) (h : (k, v) ∈ t) :
    assocGet k t = some v := by
  induction t with
  | nil => cases h
  | cons p t ih =>
    rw [assocSorted_cons] at hs
    rw [assocGet_cons]
    rcases List.mem_cons.1 h with rfl | h
    · simp
    · rw [if_neg (Nat.ne_of_gt (hs.1 _ h))]
      exact ih hs.2 h

/-! ## Setting a value -/

/-- A set key reads as set. -/
@[simp] theorem assocGet_assocSet_self (k : Nat) (v : α) (t : List (Nat × α)) :
    assocGet k (assocSet k v t) = some v := by
  induction t with
  | nil => simp [assocSet, assocGet]
  | cons p t ih =>
    obtain ⟨k', v'⟩ := p
    simp only [assocSet]
    split
    · simp [assocGet]
    · split
      · simp [assocGet]
      · rename_i h
        simp [assocGet, h, ih]

/-- Setting a key leaves every other key. -/
@[simp] theorem assocGet_assocSet_ne {k j : Nat} (h : j ≠ k) (v : α) (t : List (Nat × α)) :
    assocGet j (assocSet k v t) = assocGet j t := by
  induction t with
  | nil => simp [assocSet, assocGet, h]
  | cons p t ih =>
    obtain ⟨k', v'⟩ := p
    simp only [assocSet]
    split
    · simp [assocGet, h]
    · split
      · rename_i hk
        subst hk
        simp [assocGet, h]
      · simp [assocGet, ih]

/-- What is listed after a key is set. -/
theorem mem_assocSet {k : Nat} {v : α} {t : List (Nat × α)} {p : Nat × α} (h : p ∈ assocSet k v t) :
    p = (k, v) ∨ p ∈ t := by
  induction t with
  | nil => simpa [assocSet] using h
  | cons q t ih =>
    obtain ⟨k', v'⟩ := q
    simp only [assocSet] at h
    split at h
    · rcases List.mem_cons.1 h with h | h
      · exact .inl h
      · exact .inr h
    · split at h
      · rcases List.mem_cons.1 h with h | h
        · exact .inl h
        · exact .inr (List.mem_cons_of_mem _ h)
      · rcases List.mem_cons.1 h with h | h
        · exact .inr (h ▸ List.mem_cons_self)
        · rcases ih h with h | h
          · exact .inl h
          · exact .inr (List.mem_cons_of_mem _ h)

/-- Setting a key keeps the canonical form. -/
theorem assocSorted_assocSet {t : List (Nat × α)} (hs : assocSorted t) (k : Nat) (v : α) :
    assocSorted (assocSet k v t) := by
  induction t with
  | nil => exact List.pairwise_singleton _ _
  | cons p t ih =>
    obtain ⟨k', v'⟩ := p
    have hs' := hs
    rw [assocSorted_cons] at hs'
    simp only [assocSet]
    split
    · rename_i hk
      rw [assocSorted_cons]
      refine ⟨fun q hq => ?_, hs⟩
      rcases List.mem_cons.1 hq with rfl | hq
      · exact hk
      · exact Nat.lt_trans hk (hs'.1 q hq)
    · split
      · rename_i _ hk
        rw [assocSorted_cons]
        exact ⟨fun q hq => hk ▸ hs'.1 q hq, hs'.2⟩
      · rename_i h1 h2
        rw [assocSorted_cons]
        refine ⟨fun q hq => ?_, ih hs'.2⟩
        rcases mem_assocSet hq with rfl | hq
        · exact Nat.lt_of_le_of_ne (Nat.le_of_not_lt h1) (fun h => h2 h.symm)
        · exact hs'.1 q hq

/-! ## Removing a key -/

/-- What is listed after a key is removed. -/
theorem mem_assocErase {k : Nat} {t : List (Nat × α)} {p : Nat × α} : p ∈ assocErase k t ↔ p ∈ t ∧ p.1 ≠ k := by
  simp [assocErase]

/-- Removing a key keeps the canonical form. -/
theorem assocSorted_assocErase {t : List (Nat × α)} (hs : assocSorted t) (k : Nat) : assocSorted (assocErase k t) :=
  hs.filter _

/-- A removed key reads as none. -/
@[simp] theorem assocGet_assocErase_self (k : Nat) (t : List (Nat × α)) : assocGet k (assocErase k t) = none := by
  induction t with
  | nil => rfl
  | cons p t ih =>
    by_cases h : p.1 = k
    · simpa [assocErase, h] using ih
    · rw [show assocErase k (p :: t) = p :: assocErase k t by simp [assocErase, h]]
      rw [assocGet_cons, if_neg fun hk => h hk.symm]
      exact ih

/-- Removing a key leaves every other key. -/
@[simp] theorem assocGet_assocErase_ne {k j : Nat} (h : j ≠ k) (t : List (Nat × α)) :
    assocGet j (assocErase k t) = assocGet j t := by
  induction t with
  | nil => rfl
  | cons p t ih =>
    by_cases hp : p.1 = k
    · rw [assocGet_cons, if_neg (hp ▸ h)]
      simpa [assocErase, hp] using ih
    · rw [show assocErase k (p :: t) = p :: assocErase k t by simp [assocErase, hp]]
      rw [assocGet_cons, assocGet_cons, ih]

/-! ## Counters -/

/-- A counter that is set reads as set. -/
@[simp] theorem State.counter_setCounter_self (s : State) (i v : Nat) : (s.setCounter i v).counter i = v := by
  unfold State.setCounter State.counter
  by_cases h : v = 0 <;> simp [h]

/-- Setting a counter leaves every other. -/
@[simp] theorem State.counter_setCounter_ne {i j : Nat} (h : j ≠ i) (s : State) (v : Nat) :
    (s.setCounter i v).counter j = s.counter j := by
  unfold State.setCounter State.counter
  by_cases hv : v = 0 <;> simp [hv, h]

/-- A counter that rises holds at its top (00_scope.md, E). -/
@[simp] theorem State.counter_bumpBy_self (s : State) (i n : Nat) :
    (s.bumpBy i n).counter i = min (s.counter i + n) Config.counterTop :=
  State.counter_setCounter_self s i _

/-- A rise of one counter leaves every other. -/
@[simp] theorem State.counter_bumpBy_ne {i j : Nat} (h : j ≠ i) (s : State) (n : Nat) :
    (s.bumpBy i n).counter j = s.counter j := State.counter_setCounter_ne h s _

/-- A counter increments. -/
@[simp] theorem State.counter_bump_self (s : State) (i : Nat) :
    (s.bump i).counter i = min (s.counter i + 1) Config.counterTop := State.counter_bumpBy_self s i 1

/-- An increment of one counter leaves every other. -/
@[simp] theorem State.counter_bump_ne {i j : Nat} (h : j ≠ i) (s : State) : (s.bump i).counter j = s.counter j :=
  State.counter_bumpBy_ne h s 1

/-- Setting a counter within its range keeps the canonical form. -/
theorem countersWf_setCounter {s : State} (h : countersWf s.counters) (i : Nat) {v : Nat} (hv : v ≤ Config.counterTop) :
    countersWf (s.setCounter i v).counters := by
  obtain ⟨hs, hb⟩ := h
  show countersWf (if v = 0 then assocErase i s.counters else assocSet i v s.counters)
  split
  · exact ⟨assocSorted_assocErase hs i, fun p hp => hb p (mem_assocErase.1 hp).1⟩
  · rename_i h0
    refine ⟨assocSorted_assocSet hs i v, fun p hp => ?_⟩
    rcases mem_assocSet hp with rfl | hp
    · exact ⟨Nat.pos_of_ne_zero h0, hv⟩
    · exact hb p hp

/-- A rise keeps the canonical form. -/
theorem countersWf_bumpBy {s : State} (h : countersWf s.counters) (i n : Nat) : countersWf (s.bumpBy i n).counters :=
  countersWf_setCounter h i (Nat.min_le_right _ _)

/-- An increment keeps the canonical form. -/
theorem countersWf_bump {s : State} (h : countersWf s.counters) (i : Nat) : countersWf (s.bump i).counters :=
  countersWf_bumpBy h i 1

end Sys2Proof.Machine
end

