-- ==== Sys2Proof/Laws/Ops.lean ====
section
/-! SUPPORT. One lemma for each operation on the pool, the flags and the radio state, saying all that it does; and the
fields that the pool operations leave. -/

namespace Sys2Proof.Machine

/-! ## The Cell Pool (R41, R54) -/

/-- The POOL test changes the mark, the causes and what is owed, and nothing else. -/
theorem State.poolTest_eq (s : State) :
    s.poolTest =
      { s with
        pool := { s.pool with low := decide (s.pool.free < s.station.reserveFloor) }
        notices := s.poolTest.notices
        due := { s.due with notice := s.poolTest.due.notice } } := by
  unfold State.poolTest
  split
  · rename_i h
    split
    · rename_i hl
      simp only [h, decide_true]
      rw [← hl]
    · simp [State.raise, h]
  · rename_i h
    split
    · simp [h]
    · rename_i hl
      have : s.pool.low = false := by simpa using hl
      simp only [h, decide_false]
      rw [← this]

/-- The POOL test raises POOL exactly where the mark becomes set (R54). -/
theorem State.poolTest_notices (s : State) :
    s.poolTest.notices =
      if s.pool.free < s.station.reserveFloor ∧ s.pool.low = false then
        { s.notices with causes := s.notices.causes.add .pool }
      else s.notices := by
  unfold State.poolTest
  by_cases h : s.pool.free < s.station.reserveFloor <;> cases hl : s.pool.low <;> simp [h, State.raise]

@[simp] theorem State.poolTest_pool (s : State) :
    s.poolTest.pool = { s.pool with low := decide (s.pool.free < s.station.reserveFloor) } := by
  rw [State.poolTest_eq]

/-- Cells taken leave the free count. -/
@[simp] theorem State.takeCells_free (s : State) (n : Nat) : (s.takeCells n).pool.free = s.pool.free - n := by
  simp [State.takeCells]

/-- Cells returned join the free count. -/
@[simp] theorem State.returnCells_free (s : State) (n : Nat) : (s.returnCells n).pool.free = s.pool.free + n := by
  unfold State.returnCells
  split <;> simp_all

@[simp] theorem State.returnCells_zero (s : State) : s.returnCells 0 = s := rfl

/-! ## What is owed, apart from a notice test -/

/-- What an event owes apart from a notice test. -/
def Due.actions (d : Due) : Bool × Bool × Bool × Bool × Bool := (d.mode, d.select, d.transfer, d.fibre, d.premises)

@[simp] theorem State.poolTest_actions (s : State) : s.poolTest.due.actions = s.due.actions := by
  rw [State.poolTest_eq]
  rfl

@[simp] theorem State.takeCells_actions (s : State) (n : Nat) : (s.takeCells n).due.actions = s.due.actions :=
  State.poolTest_actions _

@[simp] theorem State.returnCells_actions (s : State) (n : Nat) : (s.returnCells n).due.actions = s.due.actions := by
  unfold State.returnCells
  split
  · rfl
  · exact (State.poolTest_actions _).trans rfl

@[simp] theorem State.raise_actions (s : State) (c : Cause) : (s.raise c).due.actions = s.due.actions := rfl
@[simp] theorem State.bump_actions (s : State) (i : Nat) : (s.bump i).due.actions = s.due.actions := rfl

/-- An event that owes no action but perhaps a notice ends, while notices are off, as it stands. -/
theorem State.settle_quiet {s : State} (h : s.due.actions = (false, false, false, false, false))
    (ho : s.station.noticeAddress = 0) : s.settle = { s with due := Due.nothing } := by
  simp only [Due.actions, Prod.mk.injEq] at h
  exact State.settle_off h.1 h.2.2.1 h.2.1 h.2.2.2.1 h.2.2.2.2 ho

/-! ## The radio state and the link error summary -/

/-- A change of the radio state (R94). -/
@[simp] theorem State.setRadioState_state (s : State) (r : RadioState) : (s.setRadioState r).bearer.state = r := by
  unfold State.setRadioState
  split <;> simp_all

/-- A change of the radio state leaves the rest of the bearer. -/
@[simp] theorem State.setRadioState_bearer (s : State) (r : RadioState) :
    (s.setRadioState r).bearer = { s.bearer with state := r } := by
  unfold State.setRadioState
  split
  · rename_i h
    rw [← h]
  · rfl

/-- Setting a flag of the link error summary (R96). -/
@[simp] theorem State.linkError_link (s : State) (f : LinkFlag) :
    (s.linkError f).link = { s.link with errors := s.link.errors.set f } := by
  unfold State.linkError
  split
  · rename_i h
    cases f <;> simp [LinkErrors.has] at h <;> simp [LinkErrors.set, ← h]
  · rfl

/-- LINK is raised exactly where a flag becomes set (R96). -/
theorem State.linkError_notices (s : State) (f : LinkFlag) :
    (s.linkError f).notices =
      if s.link.errors.has f then s.notices else { s.notices with causes := s.notices.causes.add .link } := by
  unfold State.linkError
  split <;> rfl

@[simp] theorem State.linkError_actions (s : State) (f : LinkFlag) : (s.linkError f).due.actions = s.due.actions := by
  unfold State.linkError
  split <;> rfl

/-! ## Records and frames that arrive -/

/-- A run of delimiters carries no record, and nothing else is judged so (R77). -/
theorem judgeRecord_eq_nothing {bytes : Bytes} : judgeRecord bytes = .nothing ↔ bytes = [] := by
  constructor
  · intro h
    by_cases hne : bytes = []
    · exact hne
    · simp only [judgeRecord, judgeBody, hne, if_false] at h
      split at h
      · cases h
      · split at h <;> (repeat' split at h) <;> cases h
  · rintro rfl
    rfl

/-- A whole frame of the Fibre port outside HOLD that is no probe reply goes downstream; a reply in the dark is counted
on the way (R60, R64, R113). -/
theorem State.takeFibreFrame_joins {s : State} {data : Bytes} (hr : s.isProbeReply data = false)
    (hm : s.service.mode ≠ .hold) :
    s.takeFibreFrame data = (if s.replyInDark data then s.bump ctrLateReplies else s).joinDownstreamFibre data := by
  unfold State.takeFibreFrame
  rw [hr]
  by_cases hd : s.replyInDark data
  · cases h : s.service.mode <;> simp_all [State.bump]
  · cases h : s.service.mode <;> simp_all

/-! ## Entries -/

@[simp] theorem State.entry_setEntry_self (s : State) (i : Nat) (e : FlowEntry) : (s.setEntry i e).entry i = some e :=
  assocGet_assocSet_self i e s.flows

@[simp] theorem State.entry_setEntry_ne {i j : Nat} (h : j ≠ i) (s : State) (e : FlowEntry) :
    (s.setEntry i e).entry j = s.entry j := assocGet_assocSet_ne h e s.flows

/-- A change of an entry in use. -/
theorem State.modifyEntry_of_entry {s : State} {i : Nat} {e : FlowEntry} (h : s.entry i = some e)
    (g : FlowEntry → FlowEntry) : s.modifyEntry i g = s.setEntry i (g e) := by simp [State.modifyEntry, h]

/-- A free way stays free. -/
theorem State.modifyEntry_of_none {s : State} {i : Nat} (h : s.entry i = none) (g : FlowEntry → FlowEntry) :
    s.modifyEntry i g = s := by simp [State.modifyEntry, h]

/-! ## Fields that the pool operations leave -/

section
variable (s : State) (n : Nat)

@[simp] theorem State.poolTest_now : s.poolTest.now = s.now := by rw [State.poolTest_eq]
@[simp] theorem State.poolTest_lightLost : s.poolTest.lightLost = s.lightLost := by rw [State.poolTest_eq]
@[simp] theorem State.poolTest_factory : s.poolTest.factory = s.factory := by rw [State.poolTest_eq]
@[simp] theorem State.poolTest_station : s.poolTest.station = s.station := by rw [State.poolTest_eq]
@[simp] theorem State.poolTest_rules : s.poolTest.rules = s.rules := by rw [State.poolTest_eq]
@[simp] theorem State.poolTest_classes : s.poolTest.classes = s.classes := by rw [State.poolTest_eq]
@[simp] theorem State.poolTest_flows : s.poolTest.flows = s.flows := by rw [State.poolTest_eq]
@[simp] theorem State.poolTest_monitor : s.poolTest.monitor = s.monitor := by rw [State.poolTest_eq]
@[simp] theorem State.poolTest_probe : s.poolTest.probe = s.probe := by rw [State.poolTest_eq]
@[simp] theorem State.poolTest_fibre : s.poolTest.fibre = s.fibre := by rw [State.poolTest_eq]
@[simp] theorem State.poolTest_fibreAssembly : s.poolTest.fibreAssembly = s.fibreAssembly := by rw [State.poolTest_eq]
@[simp] theorem State.poolTest_link : s.poolTest.link = s.link := by rw [State.poolTest_eq]
@[simp] theorem State.poolTest_sender : s.poolTest.sender = s.sender := by rw [State.poolTest_eq]
@[simp] theorem State.poolTest_lastSignal : s.poolTest.lastSignal = s.lastSignal := by rw [State.poolTest_eq]
@[simp] theorem State.poolTest_bearer : s.poolTest.bearer = s.bearer := by rw [State.poolTest_eq]
@[simp] theorem State.poolTest_radio : s.poolTest.radio = s.radio := by rw [State.poolTest_eq]
@[simp] theorem State.poolTest_scheduler : s.poolTest.scheduler = s.scheduler := by rw [State.poolTest_eq]
@[simp] theorem State.poolTest_tunnel : s.poolTest.tunnel = s.tunnel := by rw [State.poolTest_eq]
@[simp] theorem State.poolTest_carrier : s.poolTest.carrier = s.carrier := by rw [State.poolTest_eq]
@[simp] theorem State.poolTest_allowance : s.poolTest.allowance = s.allowance := by rw [State.poolTest_eq]
@[simp] theorem State.poolTest_steering : s.poolTest.steering = s.steering := by rw [State.poolTest_eq]
@[simp] theorem State.poolTest_service : s.poolTest.service = s.service := by rw [State.poolTest_eq]
@[simp] theorem State.poolTest_held : s.poolTest.held = s.held := by rw [State.poolTest_eq]
@[simp] theorem State.poolTest_premisesAssembly : s.poolTest.premisesAssembly = s.premisesAssembly := by rw [State.poolTest_eq]
@[simp] theorem State.poolTest_egress : s.poolTest.egress = s.egress := by rw [State.poolTest_eq]
@[simp] theorem State.poolTest_downstream : s.poolTest.downstream = s.downstream := by rw [State.poolTest_eq]
@[simp] theorem State.poolTest_control : s.poolTest.control = s.control := by rw [State.poolTest_eq]
@[simp] theorem State.poolTest_counters : s.poolTest.counters = s.counters := by rw [State.poolTest_eq]
@[simp] theorem State.poolTest_pending : s.poolTest.pending = s.pending := by rw [State.poolTest_eq]

@[simp] theorem State.takeCells_now : (s.takeCells n).now = s.now := State.poolTest_now _
@[simp] theorem State.takeCells_lightLost : (s.takeCells n).lightLost = s.lightLost := State.poolTest_lightLost _
@[simp] theorem State.takeCells_factory : (s.takeCells n).factory = s.factory := State.poolTest_factory _
@[simp] theorem State.takeCells_station : (s.takeCells n).station = s.station := State.poolTest_station _
@[simp] theorem State.takeCells_rules : (s.takeCells n).rules = s.rules := State.poolTest_rules _
@[simp] theorem State.takeCells_classes : (s.takeCells n).classes = s.classes := State.poolTest_classes _
@[simp] theorem State.takeCells_flows : (s.takeCells n).flows = s.flows := State.poolTest_flows _
@[simp] theorem State.takeCells_monitor : (s.takeCells n).monitor = s.monitor := State.poolTest_monitor _
@[simp] theorem State.takeCells_probe : (s.takeCells n).probe = s.probe := State.poolTest_probe _
@[simp] theorem State.takeCells_fibre : (s.takeCells n).fibre = s.fibre := State.poolTest_fibre _
@[simp] theorem State.takeCells_fibreAssembly : (s.takeCells n).fibreAssembly = s.fibreAssembly := State.poolTest_fibreAssembly _
@[simp] theorem State.takeCells_link : (s.takeCells n).link = s.link := State.poolTest_link _
@[simp] theorem State.takeCells_sender : (s.takeCells n).sender = s.sender := State.poolTest_sender _
@[simp] theorem State.takeCells_lastSignal : (s.takeCells n).lastSignal = s.lastSignal := State.poolTest_lastSignal _
@[simp] theorem State.takeCells_bearer : (s.takeCells n).bearer = s.bearer := State.poolTest_bearer _
@[simp] theorem State.takeCells_radio : (s.takeCells n).radio = s.radio := State.poolTest_radio _
@[simp] theorem State.takeCells_scheduler : (s.takeCells n).scheduler = s.scheduler := State.poolTest_scheduler _
@[simp] theorem State.takeCells_tunnel : (s.takeCells n).tunnel = s.tunnel := State.poolTest_tunnel _
@[simp] theorem State.takeCells_carrier : (s.takeCells n).carrier = s.carrier := State.poolTest_carrier _
@[simp] theorem State.takeCells_allowance : (s.takeCells n).allowance = s.allowance := State.poolTest_allowance _
@[simp] theorem State.takeCells_steering : (s.takeCells n).steering = s.steering := State.poolTest_steering _
@[simp] theorem State.takeCells_service : (s.takeCells n).service = s.service := State.poolTest_service _
@[simp] theorem State.takeCells_held : (s.takeCells n).held = s.held := State.poolTest_held _
@[simp] theorem State.takeCells_premisesAssembly : (s.takeCells n).premisesAssembly = s.premisesAssembly := State.poolTest_premisesAssembly _
@[simp] theorem State.takeCells_egress : (s.takeCells n).egress = s.egress := State.poolTest_egress _
@[simp] theorem State.takeCells_downstream : (s.takeCells n).downstream = s.downstream := State.poolTest_downstream _
@[simp] theorem State.takeCells_control : (s.takeCells n).control = s.control := State.poolTest_control _
@[simp] theorem State.takeCells_counters : (s.takeCells n).counters = s.counters := State.poolTest_counters _
@[simp] theorem State.takeCells_pending : (s.takeCells n).pending = s.pending := State.poolTest_pending _

@[simp] theorem State.returnCells_now : (s.returnCells n).now = s.now := by
  unfold State.returnCells
  split
  · rfl
  · exact State.poolTest_now _
@[simp] theorem State.returnCells_lightLost : (s.returnCells n).lightLost = s.lightLost := by
  unfold State.returnCells
  split
  · rfl
  · exact State.poolTest_lightLost _
@[simp] theorem State.returnCells_factory : (s.returnCells n).factory = s.factory := by
  unfold State.returnCells
  split
  · rfl
  · exact State.poolTest_factory _
@[simp] theorem State.returnCells_station : (s.returnCells n).station = s.station := by
  unfold State.returnCells
  split
  · rfl
  · exact State.poolTest_station _
@[simp] theorem State.returnCells_rules : (s.returnCells n).rules = s.rules := by
  unfold State.returnCells
  split
  · rfl
  · exact State.poolTest_rules _
@[simp] theorem State.returnCells_classes : (s.returnCells n).classes = s.classes := by
  unfold State.returnCells
  split
  · rfl
  · exact State.poolTest_classes _
@[simp] theorem State.returnCells_flows : (s.returnCells n).flows = s.flows := by
  unfold State.returnCells
  split
  · rfl
  · exact State.poolTest_flows _
@[simp] theorem State.returnCells_monitor : (s.returnCells n).monitor = s.monitor := by
  unfold State.returnCells
  split
  · rfl
  · exact State.poolTest_monitor _
@[simp] theorem State.returnCells_probe : (s.returnCells n).probe = s.probe := by
  unfold State.returnCells
  split
  · rfl
  · exact State.poolTest_probe _
@[simp] theorem State.returnCells_fibre : (s.returnCells n).fibre = s.fibre := by
  unfold State.returnCells
  split
  · rfl
  · exact State.poolTest_fibre _
@[simp] theorem State.returnCells_fibreAssembly : (s.returnCells n).fibreAssembly = s.fibreAssembly := by
  unfold State.returnCells
  split
  · rfl
  · exact State.poolTest_fibreAssembly _
@[simp] theorem State.returnCells_link : (s.returnCells n).link = s.link := by
  unfold State.returnCells
  split
  · rfl
  · exact State.poolTest_link _
@[simp] theorem State.returnCells_sender : (s.returnCells n).sender = s.sender := by
  unfold State.returnCells
  split
  · rfl
  · exact State.poolTest_sender _
@[simp] theorem State.returnCells_lastSignal : (s.returnCells n).lastSignal = s.lastSignal := by
  unfold State.returnCells
  split
  · rfl
  · exact State.poolTest_lastSignal _
@[simp] theorem State.returnCells_bearer : (s.returnCells n).bearer = s.bearer := by
  unfold State.returnCells
  split
  · rfl
  · exact State.poolTest_bearer _
@[simp] theorem State.returnCells_radio : (s.returnCells n).radio = s.radio := by
  unfold State.returnCells
  split
  · rfl
  · exact State.poolTest_radio _
@[simp] theorem State.returnCells_scheduler : (s.returnCells n).scheduler = s.scheduler := by
  unfold State.returnCells
  split
  · rfl
  · exact State.poolTest_scheduler _
@[simp] theorem State.returnCells_tunnel : (s.returnCells n).tunnel = s.tunnel := by
  unfold State.returnCells
  split
  · rfl
  · exact State.poolTest_tunnel _
@[simp] theorem State.returnCells_carrier : (s.returnCells n).carrier = s.carrier := by
  unfold State.returnCells
  split
  · rfl
  · exact State.poolTest_carrier _
@[simp] theorem State.returnCells_allowance : (s.returnCells n).allowance = s.allowance := by
  unfold State.returnCells
  split
  · rfl
  · exact State.poolTest_allowance _
@[simp] theorem State.returnCells_steering : (s.returnCells n).steering = s.steering := by
  unfold State.returnCells
  split
  · rfl
  · exact State.poolTest_steering _
@[simp] theorem State.returnCells_service : (s.returnCells n).service = s.service := by
  unfold State.returnCells
  split
  · rfl
  · exact State.poolTest_service _
@[simp] theorem State.returnCells_held : (s.returnCells n).held = s.held := by
  unfold State.returnCells
  split
  · rfl
  · exact State.poolTest_held _
@[simp] theorem State.returnCells_premisesAssembly : (s.returnCells n).premisesAssembly = s.premisesAssembly := by
  unfold State.returnCells
  split
  · rfl
  · exact State.poolTest_premisesAssembly _
@[simp] theorem State.returnCells_egress : (s.returnCells n).egress = s.egress := by
  unfold State.returnCells
  split
  · rfl
  · exact State.poolTest_egress _
@[simp] theorem State.returnCells_downstream : (s.returnCells n).downstream = s.downstream := by
  unfold State.returnCells
  split
  · rfl
  · exact State.poolTest_downstream _
@[simp] theorem State.returnCells_control : (s.returnCells n).control = s.control := by
  unfold State.returnCells
  split
  · rfl
  · exact State.poolTest_control _
@[simp] theorem State.returnCells_counters : (s.returnCells n).counters = s.counters := by
  unfold State.returnCells
  split
  · rfl
  · exact State.poolTest_counters _
@[simp] theorem State.returnCells_pending : (s.returnCells n).pending = s.pending := by
  unfold State.returnCells
  split
  · rfl
  · exact State.poolTest_pending _

end

/-! ## The modem receive assembly at link loss (R83, R84) -/

/-- Link loss empties the modem receive assembly and marks a record that had cells (R84, log 30). -/
@[simp] theorem State.emptyModemAssembly_link (s : State) :
    s.emptyModemAssembly.link = { s.link with assembly := { s.link.assembly with
      cells := 0, released := s.link.assembly.released || decide (0 < s.link.assembly.cells) } } := by
  simp [State.emptyModemAssembly]

/-- A record that gave its cells back at link loss takes none at its end (log 30). -/
theorem State.receivePayload_released {s : State} (h : s.link.assembly.released = true) (length : Nat) :
    s.receivePayload false length = s := by simp [State.receivePayload, State.noteCorrection, h]

end Sys2Proof.Machine
end

