-- ==== Sys2Proof/WellFormed.lean ====
section
/-! DEFINITION. The commands that an event of the part can be. A command outside these still has a meaning; the part never
makes one (log 5, 6). -/

namespace Sys2Proof

open Machine

/-- A reading of the time base is a 48-bit count (00_scope.md, E). -/
def Reading.wf (t : Reading) : Bool := decide (t < 2 ^ 48)

/-- A cell number within a frame: the thirteenth is the one that discards it (R44, R51). -/
def frameCellWf (n : Nat) : Bool := decide (n ≤ Config.maxFrameCells)

/-- A cell number within a payload of at most 1664 bytes (R52). -/
def recordCellWf (n : Nat) : Bool := decide (n * Config.cellBytes < Config.maxRecordPayload)

/-- A frame that ends has at least its first byte (R44). -/
def frameWf (data : Bytes) : Bool := !data.isEmpty

/-- The rows of the record commands, as steps 1 to 5 of R81 divide them. -/
inductive RecordRow where
  | status
  | grant
  | data
  | unknownKind
  | headerError
  | overLength
  | payloadError
  deriving DecidableEq, Repr

/-- The row that the bytes received since a delimiter belong to; a run of delimiters carries no record (R77). -/
def recordRow (bytes : Bytes) : Option RecordRow :=
  match judgeRecord bytes with
  | .nothing => none
  | .headerError => some .headerError
  | .overLength _ => some .overLength
  | .payloadError _ => some .payloadError
  | .unknownKind _ _ => some .unknownKind
  | .status _ _ => some .status
  | .grant _ _ => some .grant
  | .data _ _ => some .data

/-- The command is one that an event of the part can be. -/
def Instr.wf : Instr → Bool
  | .resetN _ _ _ => true
  | .lightLostActive t => t.wf
  | .lightLostInactive t => t.wf
  | .onReserveActive t => t.wf
  | .onReserveInactive t => t.wf
  | .premisesCellTake t n => t.wf && frameCellWf n
  | .premisesFrameReceived t data _ => t.wf && frameWf data
  | .fibreCellTake t n => t.wf && frameCellWf n
  | .fibreFrameReceived t data _ => t.wf && frameWf data
  | .fibreTransmitEnd t => t.wf
  | .probeInstant t => t.wf
  | .holdDownDeadline t => t.wf
  | .calmPeriodEnd t => t.wf
  | .modemCellTake t head n => t.wf && decide (head.length = 4) && recordCellWf n
  | .statusRecord t bytes => t.wf && decide (recordRow bytes = some .status)
  | .grantRecord t bytes => t.wf && decide (recordRow bytes = some .grant)
  | .dataRecord t bytes => t.wf && decide (recordRow bytes = some .data)
  | .unknownKindRecord t bytes => t.wf && decide (recordRow bytes = some .unknownKind)
  | .silenceTimerExpiry t => t.wf
  | .transferBegin t => t.wf
  | .transferEnd t => t.wf
  | .openTimerExpiry t => t.wf
  | .lingerTimerExpiry t => t.wf
  | .closingTimerExpiry t => t.wf
  | .retryTimerExpiry t => t.wf
  | .creditRefill t => t.wf
  | .drainDeadlineExpiry t way => t.wf && decide (way < 1024)
  | .agingVisit t way => t.wf && decide (way < 1024)
  | .holdTimerExpiry t => t.wf
  | .controlFrameBegin t => t.wf
  | .discover t => t.wf
  | .readStationRecord t => t.wf
  | .writeStationRecord t => t.wf
  | .readClassRuleTable t => t.wf
  | .writeClassRuleTable t => t.wf
  | .readClassTable t => t.wf
  | .writeClassTable t => t.wf
  | .readFlowTable t => t.wf
  | .deleteFlow t => t.wf
  | .flushFlows t => t.wf
  | .readProbeRecord t => t.wf
  | .writeProbeRecord t => t.wf
  | .readRadioRecord t => t.wf
  | .writeRadioRecord t => t.wf
  | .readTunnelRecord t => t.wf
  | .writeTunnelRecord t => t.wf
  | .readAllowanceRecord t => t.wf
  | .writeAllowanceRecord t => t.wf
  | .readStatusSnapshot t => t.wf
  | .readCounters t => t.wf
  | .hold t => t.wf
  | .release t => t.wf
  | .beginService t => t.wf
  | .restart t => t.wf
  | .newPeriod t => t.wf
  | .setUsed t => t.wf
  | .replyWrite t => t.wf
  | .restartAct t => t.wf
  | .noticeWrite t => t.wf
  | .noticeSpacingEnd t => t.wf
  | .premisesTransmitEnd t => t.wf
  | .headerError t bytes => t.wf && decide (recordRow bytes = some .headerError)
  | .modemOverLength t bytes => t.wf && decide (recordRow bytes = some .overLength)
  | .payloadError t bytes => t.wf && decide (recordRow bytes = some .payloadError)
  | .badKindRequest t => t.wf

end Sys2Proof
end

