-- ==== Sys2Proof/Tests/Slice0.lean ====
section
/-! SUPPORT. The model's own tests: ill-formed commands refused, the manual's worked examples, one step of some commands,
and for each statement with hypotheses a state and operands that meet them. -/

namespace Sys2Proof.Tests

open Machine

set_option maxRecDepth 20000
set_option Elab.async false

/-! ## Well-formed commands -/

theorem test_wf_reading : (Instr.transferBegin (2 ^ 48)).wf = false ∧ (Instr.transferBegin (2 ^ 48 - 1)).wf = true := by
  decide

theorem test_wf_frame_cell : (Instr.premisesCellTake 0 13).wf = false ∧ (Instr.fibreCellTake 0 12).wf = true := by decide

theorem test_wf_empty_frame :
    (Instr.premisesFrameReceived 0 [] true).wf = false ∧ (Instr.fibreFrameReceived 0 [] true).wf = false := by decide

theorem test_wf_record_head : (Instr.modemCellTake 0 [1, 2, 3] 0).wf = false := by decide

theorem test_wf_record_cell :
    (Instr.modemCellTake 0 [1, 2, 3, 4] 13).wf = false ∧ (Instr.modemCellTake 0 [1, 2, 3, 4] 12).wf = true := by decide

theorem test_wf_way : (Instr.agingVisit 0 1024).wf = false ∧ (Instr.drainDeadlineExpiry 0 1024).wf = false := by decide

/-- A record of three bytes is a header error and no other row (R81); a run of delimiters is none (R77). -/
theorem test_wf_record_row :
    (Instr.statusRecord 0 [1, 2, 3]).wf = false ∧ (Instr.grantRecord 0 [1, 2, 3]).wf = false
      ∧ (Instr.dataRecord 0 [1, 2, 3]).wf = false ∧ (Instr.unknownKindRecord 0 [1, 2, 3]).wf = false
      ∧ (Instr.modemOverLength 0 [1, 2, 3]).wf = false ∧ (Instr.payloadError 0 [1, 2, 3]).wf = false
      ∧ (Instr.headerError 0 [1, 2, 3]).wf = true ∧ (Instr.headerError 0 (recordBytes 2 [])).wf = false
      ∧ (Instr.headerError 0 []).wf = false := by decide +kernel

theorem test_no_word_spells_a_command : decodeTableWord 32 0x12345678 = none := rfl

/-! ## The manual's worked examples -/

/-- Chapter 2, "Worked hash". -/
theorem test_worked_hash :
    let image : Bytes :=
      [0x04, 0x11, 0x01, 0x00, 0x64, 0x40, 0x0A, 0x02, 0xCB, 0x00, 0x71, 0x05, 0x9C, 0x40, 0x13, 0xC4]
    onesSum image = 0x5F5E ∧ bucketOf image = 94 ∧ waysOf 94 = [376, 377, 378, 379] := by decide

/-- Chapter 5, "Worked example: check bytes". -/
theorem test_check_bytes :
    headerCheck (headerOf 0x01 136) = 0x9D ∧ headerCheck (headerOf 0x02 0) = 0x97 ∧ headerCheck (headerOf 0x03 0) = 0x81
      ∧ headerCheck (headerOf 0x83 4) = 0x9A ∧ headerCheck (headerOf 0x82 3) = 0x0C := by decide +kernel

/-- Chapter 5: the four kinds of damage to the DATA header. -/
theorem test_header_damage :
    let h := headerOf 0x01 136
    decodeHeader (headerOf 0x01 8) 0x9D = .corrected h ∧ decodeHeader h 0x99 = .corrected h
      ∧ decodeHeader h 0x1D = .corrected h ∧ decodeHeader (headerOf 0x01 0) 0x9D = .error := by decide +kernel

/-- Chapter 5: the payload checks of the GRANT and of the STATUS. -/
theorem test_payload_checks :
    payloadCheck [0x0B, 0xB8, 0x00, 0x14] = 0xF433 ∧ payloadCheck [0x01, 0x01, 0x14] = 0xEAFE
      ∧ payloadCheckHolds [0x0B, 0xB8, 0x00, 0x14] 0xF433 = true ∧ payloadCheck [] = 0xFFFF := by decide +kernel

/-- Chapter 8, "Two grants and a refill". -/
theorem test_two_grants :
    rateSample 3000 20 = 1200 ∧ newEstimate true 2000 1200 3 1 = 1600 ∧ rateSample 5000 20 = 2000
      ∧ newEstimate true 1600 2000 3 1 = 1650 ∧ 1650 * 14 / 16 = 1443 ∧ 1443 * 5 / 4 = 1803 := by decide

/-- The Tunnel record of chapter 9, "Worked fix-up": total length 28 at 2, header checksum 0xB1E6 at 10, UDP length 8 at
24. The other template bytes are zero here. -/
def workedTunnel : TunnelRecord :=
  { templateLength := 28
    template := BitVec.ofNat 512
      (0x001C * 2 ^ (8 * 60) + 0xB1E6 * 2 ^ (8 * 52) + 0x0008 * 2 ^ (8 * 38))
    fixA := some 2, fixB := some 24, fixChecksum := some 10, upstreamId := 0x0101, downstreamId := 0, stripLength := 0 }

/-- A frame of `n` zero bytes of a class. -/
def zeroFrame (n : Nat) (c : TrafficClass) : UpFrame :=
  { data := List.replicate n 0, cls := some c, arrival := 0, flow := none }

/-- Chapter 9, "Worked fix-up". -/
theorem test_worked_fixup :
    let p := wrapFrame workedTunnel 41 (zeroFrame 100 3)
    field 2 2 p = 136 ∧ field 24 2 p = 116 ∧ field 10 2 p = 0xB17A
      ∧ slice 28 8 p = [1, 3, 0x01, 0x01, 0, 41, 0, 108] ∧ p.length = 136 := by decide +kernel

/-- R154: a field holding 65500 and raised by 108 becomes 72. -/
theorem test_length_fix_wraps : field 0 2 (lengthFix (some 0) 108 (beBytes 2 65500)) = 72 := by decide

/-- Chapter 10, "Crossing the first step". -/
theorem test_thresholds :
    let a : Allowance :=
      { total := 2000, used := 1500000800, ceiling := 7,
        steps := #v[⟨12, 3⟩, ⟨15, 1⟩, ⟨16, 7⟩, ⟨16, 7⟩] }
    a.threshold ⟨12, 3⟩ = 1500000000 ∧ a.ceilingNow = 3 ∧ { a with used := 1875000000 }.ceilingNow = 1
      ∧ { a with used := 2000000000 }.ceilingNow = 0 ∧ { a with used := 0 }.ceilingNow = 7 := by decide

/-- An untagged IPv4 UDP frame of 60 bytes between two addresses, with a DSCP, a fragment offset and a destination port. -/
def udpFrame (dscp fragment port : Nat) : Bytes :=
  List.replicate 12 2 ++ [0x08, 0x00, 0x45] ++ beBytes 1 (dscp * 4) ++ [0, 46, 0, 0] ++ beBytes 2 fragment
    ++ [64, 17, 0, 0, 100, 64, 10, 2, 203, 0, 113, 5] ++ beBytes 2 40000 ++ beBytes 2 port ++ List.replicate 22 0

/-- Chapter 1, "Five frames against four rules": the rules. -/
def workedRules : Vector Rule 64 :=
  let rules := Vector.replicate 64 Rule.reset
  let rules := rules.set 0 { Rule.reset with valid := true, dscp := some ⟨46, 46⟩, result := 0 }
  let rules := rules.set 1
    { Rule.reset with valid := true, protocol := some 17, destPort := some ⟨5060, 5061⟩, result := 1 }
  let rules := rules.set 2 { Rule.reset with valid := true, vlan := some ⟨6, 7⟩, result := 1 }
  rules.set 3 { Rule.reset with valid := true, etherType := some 0x0806, result := 2 }

/-- The class that the worked rules give a frame. -/
def workedClass (data : Bytes) : TrafficClass :=
  (State.consult { State.reset with rules := workedRules } (readFields data)).1

/-- Chapter 1, frames 1, 2, 4 and 5 of the worked example, and a frame that no rule fits. -/
theorem test_worked_rules :
    workedClass (udpFrame 46 0 40000) = 0 ∧ workedClass (udpFrame 0 0 5060) = 1
      ∧ workedClass (List.replicate 12 2 ++ [0x81, 0x00, 0xC0, 0x05, 0x08, 0x06] ++ List.replicate 42 0) = 1
      ∧ workedClass (udpFrame 0 8 9) = 1 ∧ workedClass (udpFrame 0 0 443) = 5 := by decide +kernel

/-- The key image of the worked hash's flow. -/
theorem test_key_image :
    keyImage (readFields (udpFrame 46 0 5060)) =
      [0x04, 0x11, 0x01, 0x00, 0x64, 0x40, 0x0A, 0x02, 0xCB, 0x00, 0x71, 0x05, 0x9C, 0x40, 0x13, 0xC4] := by
  decide +kernel

/-! ## One step of some commands -/

/-- An outcome is a next state with a property. -/
def nextHas (o : Host.Outcome State Fault Refusal) (p : State → Bool) : Bool :=
  match o with
  | .next t => p t
  | .fault _ => false
  | .refused _ => false

/-- An active rule-less frame in HOLD is dropped (R102): the free count is as before and the HOLD counter is 1. -/
theorem test_hold_drops :
    nextHas (exec (.premisesFrameReceived 5 (udpFrame 0 0 443) true) State.reset)
      (fun t => t.counter ctrHoldUpstream = 1 && t.pool.free = 2048 && t.fibre.queue = []) = true := by decide +kernel

/-- In NORMAL a first frame is learned on FIBRE in the first way of its bucket and begins its transmission (R27, R46). -/
def normalState : State :=
  { State.reset with
    steering := { strapHigh := false, begun := true, reserve := false }
    service := { mode := .normal, fibreOut := false, lamp := false } }

theorem test_first_frame_is_learned :
    nextHas (exec (.premisesFrameReceived 5 (udpFrame 0 0 5060) true) normalState)
      (fun t => t.flows.map (·.1) = [376] && t.pool.free = 2047 && t.fibre.sending.isSome && t.counter ctrLearned = 1
        && t.counter ctrRuleMiss = 1) = true := by decide +kernel

/-- The first STATUS takes the link up and an attached part to READY (R83, R88, R89). -/
def statusBytes (attach bearer signal : Byte) : Bytes := recordBytes 0x82 [attach, bearer, signal]

theorem test_status_attaches :
    nextHas (exec (.statusRecord 7 (statusBytes 1 0 20)) State.reset)
      (fun t => t.link.up && t.link.silence = some 1007 && t.bearer.state = .ready && t.lastSignal = 20
        && t.notices.causes.radio) = true := by decide +kernel

/-- A run of delimiters carries no record (R77). -/
theorem test_empty_run :
    nextHas (exec (.headerError 7 []) State.reset) (fun t => decide (t = { State.reset with now := 7 })) = true := by
  decide +kernel

/-- With a record under way RESET_N leaves the receiver skipping to the first delimiter (R98). -/
theorem test_reset_skips_the_record_under_way :
    let arriving (n : Nat) : State := { State.reset with
      link := { State.reset.link with assembly := { cells := n, headCounted := false, skipping := false } } }
    nextHas (exec (.resetN false false false) (arriving 2))
        (fun t => t.link.assembly = { cells := 0, headCounted := false, skipping := true }) = true
      ∧ nextHas (exec (.resetN false false false) (arriving 0)) (fun t => decide (t = State.reset)) = true := by
  decide +kernel

/-- A step of an idle part passes a millisecond, and a step with a command waiting takes it. -/
theorem test_steps :
    nextHas (step State.reset) (fun t => t.now = 1) = true
      ∧ nextHas (step { State.reset with pending := [.lightLostActive 3, .noticeWrite 4] })
          (fun t => t.lightLost && t.monitor.state = .down && t.pending = [.noticeWrite 4] && t.monitor.flapCount = 1)
        = true := by decide +kernel

/-! ## Witnesses: a state and operands for the hypotheses of each statement -/

theorem test_witness_records_at_reset : RecordsInRange State.reset :=
  ⟨by decide +kernel, by decide +kernel, by decide +kernel, by decide +kernel, by decide +kernel, by decide +kernel,
    by decide +kernel, by decide +kernel⟩

theorem test_witness_cells_at_reset : CellsAccounted State.reset :=
  ⟨by decide +kernel, by decide +kernel, ⟨by decide +kernel, fun _ h => nomatch h⟩⟩

theorem test_witness_flows_at_reset : FlowsInOrder State.reset :=
  ⟨⟨by decide +kernel, by decide +kernel, by decide +kernel, by decide +kernel⟩, by decide +kernel⟩

theorem test_witness_keys_at_reset : KeysPlaced State.reset ∧ QueuesBounded State.reset :=
  ⟨by decide +kernel, by decide +kernel⟩

theorem test_witness_radio_at_reset : BearerAgrees State.reset ∧ CreditsBounded State.reset ∧ CountsInRange State.reset :=
  ⟨⟨by decide +kernel, by decide +kernel, by decide +kernel, by decide +kernel⟩, by decide +kernel, by decide +kernel⟩

theorem test_witness_agreement_at_reset :
    MonitorAgrees State.reset ∧ ServiceAgrees State.reset ∧ CeilingAgrees State.reset ∧ MarkAgrees State.reset
      ∧ CountersWf State.reset ∧ NothingOwed State.reset :=
  ⟨by decide +kernel, by decide +kernel, by decide +kernel, by decide +kernel, by decide +kernel, by decide +kernel⟩

/-- The invariants' other hypothesis: a step from that state answers a next state. -/
theorem test_witness_step_at_reset : ∃ t, step State.reset = .next t := ⟨_, rfl⟩

theorem test_witness_step_takes_the_front : ∃ s : State, s.pending = [] := ⟨State.reset, rfl⟩

theorem test_witness_every_law_after_reset : (0 : Addr).getLsbD 40 = false := by decide

theorem test_witness_every_command_answers : ∀ a b d, Instr.transferBegin 0 ≠ .resetN a b d := by
  intro _ _ _ h; cases h

theorem test_witness_bucket : ([] : Bytes).length % 2 = 0 ∧ (0 : Nat) < 65536 ∧ (65535 : Nat) < 65536 := by decide

theorem test_witness_payload_check : ([1, 2] : Bytes)[1]? = some 2 ∧ (3 : Byte) ≠ 2 := by decide

theorem test_witness_records_read_back :
    (255 : Nat) < 256 ∧ (List.replicate 1664 (0 : Byte)).length < 65536 ∧ (List.replicate 1665 (0 : Byte)).length < 65536 := by
  decide +kernel

theorem test_witness_estimate : (262143 : Nat) ≤ 262143 ∧ (0 : Nat) ≤ 262143 ∧ (0 : Nat) < 262143 := by decide

theorem test_witness_length_fixups : 0 + 2 ≤ ([1, 2] : Bytes).length ∧ ((1 : Nat) < 2) := by decide

theorem test_witness_checksum_fixup :
    workedTunnel.fixA = some 2 ∧ workedTunnel.fixChecksum = some 10 ∧ 10 + 2 ≤ (templateBytes workedTunnel).length
      ∧ TunnelRecord.reset.fixA = none := by decide +kernel

theorem test_witness_wrapped_frames :
    workedTunnel.inRange ∧ (41 : Nat) < 65536 ∧ (zeroFrame 1536 3).cls = some 3
      ∧ (zeroFrame 1536 3).data.length ≤ 1536 := by decide +kernel

/-- The reset state with the monitor in a fibre state. -/
def fibreIn (f : FibreState) (lost : Bool) : State :=
  { State.reset with
    lightLost := lost
    monitor := { State.reset.monitor with
      state := f, deadline := if f.alive then none else some 10000, calmStart := if f.alive then some 0 else none
      misses := if f = .suspect then 1 else 0, hits := if f = .recovering then 1 else 0 } }

theorem test_witness_lost_light :
    (fibreIn .down true).lightLost = true ∧ (fibreIn .down false).lightLost = false
      ∧ (fibreIn .down false).monitor.state = .down ∧ (fibreIn .suspect false).monitor.state ≠ .down
      ∧ (fibreIn .suspect false).steering.begun = false ∧ ServiceAgrees (fibreIn .suspect false) := by decide +kernel

/-- The reset state with a probe destination, an outstanding probe and a next instant. -/
def probing (lost : Bool) (outstanding : Option Outstanding) : State :=
  { fibreIn (if lost then .down else .up) lost with
    probe := { ProbeRecord.reset with destination := 5 }
    monitor := { (fibreIn (if lost then .down else .up) lost).monitor with
      outstanding := outstanding, nextProbe := if lost then none else some 1000 } }

theorem test_witness_returning_light :
    State.reset.lightLost = false ∧ (probing true none).lightLost = true ∧ (probing true none).probe.destination ≠ 0
      ∧ (probing true none).monitor.outstanding = none ∧ (fibreIn .down true).probe.destination = 0
      ∧ (fibreIn .down true).monitor.deadline = some 10000 := by decide +kernel

theorem test_witness_probe_instant :
    (probing false (some ⟨3, false⟩)).monitor.nextProbe = some 1000 ∧ State.reset.monitor.nextProbe = none
      ∧ (∀ o, (probing false none).monitor.outstanding = some o → o.hit = true)
      ∧ (probing false none).fibre.sending = none
      ∧ ({ probing false none with fibre := { State.reset.fibre with sending := some (.probe []) } } : State).fibre.sending
          ≠ none := by
  refine ⟨rfl, rfl, ?_, rfl, ?_⟩
  · intro o h; cases h
  · decide

theorem test_witness_monitor_deadlines :
    State.reset.monitor.deadline = none ∧ (fibreIn .recovering false).monitor.deadline = some 10000
      ∧ (fibreIn .recovering false).monitor.state = .recovering ∧ (fibreIn .recovering false).probingRuns = false
      ∧ (fibreIn .down false).monitor.state ≠ .recovering ∧ (fibreIn .down false).monitor.calmStart = none
      ∧ State.reset.monitor.calmStart = some 0 := by decide +kernel

/-- A reply to the probe with sequence 3, and a state in which it has arrived. -/
def probeReply : Bytes := probeFrame 0 5 0x9A22 0 3

def replied (outstanding : Option Outstanding) : State :=
  { probing false outstanding with fibreAssembly := { cells := 1, ignoring := false } }

theorem test_witness_probe_replies :
    (replied (some ⟨3, false⟩)).fibreAssembly = { cells := cellsFor probeReply.length, ignoring := false }
      ∧ 60 ≤ probeReply.length ∧ (replied (some ⟨3, false⟩)).isProbeReply probeReply = true
      ∧ field 30 2 probeReply = 3 ∧ (replied (some ⟨3, true⟩)).isProbeReply probeReply = true
      ∧ (replied none).monitor.outstanding = none := by decide +kernel

/-- With the light lost the reply is counted as late and goes on toward the premises (R60, R64). -/
theorem test_reply_in_the_dark :
    nextHas (exec (.fibreFrameReceived 0 probeReply true)
        { probing true none with service := { State.reset.service with mode := .normal } })
      (fun t => t.counter ctrLateReplies = 1 && t.downstream.fibre = [probeReply]) = true := by decide +kernel

/-- The reset state with a receive assembly on each Ethernet port, and a free count. -/
def arriving (n free : Nat) : State :=
  { State.reset with
    premisesAssembly := { cells := n, ignoring := false }
    fibreAssembly := { cells := n, ignoring := false }
    pool := { free := free, low := false } }

theorem test_witness_arriving_frames :
    (arriving 0 1).premisesAssembly.cells = 0 ∧ (0 : Nat) < 1 ∧ (arriving 11 1).premisesAssembly.cells = 11
      ∧ (arriving 11 1).premisesAssembly.ignoring = false ∧ (arriving 11 0).pool.free = 0
      ∧ (arriving 12 1).premisesAssembly.cells = 12 ∧ ¬(arriving 12 1).premisesAssembly.cells = 11
      ∧ (arriving 11 1).fibreAssembly.cells < (arriving 11 1).station.downstreamLimit
      ∧ ({ arriving 24 1 with station := { State.reset.station with downstreamLimit := 24 } } :
          State).station.downstreamLimit ≤ (arriving 24 1).fibreAssembly.cells := by decide +kernel

/-- The first four bytes of a DATA record of 1664 bytes, as sent, with one inverted bit, with two, and of a longer record. -/
def recordHead : Bytes := (recordBytes 0x81 (List.replicate 1664 0)).take 4

/-- What the header check makes of four bytes. -/
def judgedHead (head : Bytes) : HeaderOutcome := decodeHeader (BitVec.ofNat 24 (field 0 3 head)) (field 3 1 head)

theorem test_witness_record_cells :
    let at_ (n : Nat) (skipping : Bool) : State := { State.reset with
      link := { State.reset.link with assembly := { cells := n, headCounted := false, skipping := skipping } } }
    judgedHead recordHead = .good (headerOf 0x81 1664)
      ∧ judgedHead (recordHead.set 0 0x80) = .corrected (headerOf 0x81 1664) ∧ judgedHead (recordHead.set 0 0x82) = .error
      ∧ judgedHead ((recordBytes 0x81 (List.replicate 1665 0)).take 4) = .good (headerOf 0x81 1665)
      ∧ (headerOf 0x81 1664).toNat % 65536 = 1664 ∧ 128 * 12 < 1664 ∧ (at_ 12 false).link.assembly.cells = 12
      ∧ (at_ 12 false).link.assembly.skipping = false ∧ (at_ 0 true).link.assembly.cells = 0
      ∧ (at_ 1 true).link.assembly.cells ≠ 0 ∧ 0 < (at_ 12 false).pool.free ∧ (arriving 0 0).pool.free = 0 := by
  decide +kernel

/-- A frame to the part's station address with its control type. -/
def controlFrame : Bytes := addrBytes 0 ++ addrBytes 2 ++ [0x9A, 0x21, 1] ++ List.replicate 45 0

/-- The state with one cell in the premises assembly, in a service mode. -/
def oneCell (m : Mode) : State :=
  { arriving 1 2000 with service := { State.reset.service with mode := m } }

theorem test_witness_premises_frames :
    (oneCell .hold).premisesAssembly = { cells := cellsFor 60, ignoring := false }
      ∧ (List.replicate 59 (0 : Byte)).length < 60 ∧ 60 ≤ (udpFrame 0 0 1).length
      ∧ (udpFrame 0 0 1).length = 60 ∧ controlFrame.length = 60
      ∧ (oneCell .hold).isControl controlFrame = true ∧ (oneCell .hold).control.queue.length < 4
      ∧ (oneCell .hold).isControl (udpFrame 0 0 1) = false ∧ (oneCell .hold).service.mode = .hold
      ∧ (oneCell .pass).service.mode = .pass
      ∧ (oneCell .pass).fibreOccupancy + 1 ≤ (oneCell .pass).station.fibreLimit
      ∧ (oneCell .pass).station.reserveFloor + 1 ≤ (oneCell .pass).pool.free
      ∧ ¬(arriving 1 100).station.reserveFloor + 1 ≤ (arriving 1 100).pool.free := by decide +kernel

theorem test_witness_full_control_queue :
    let s : State := { oneCell .hold with
      control := { State.reset.control with queue := List.replicate 4 controlFrame } }
    4 ≤ s.control.queue.length ∧ s.isControl controlFrame = true := by decide +kernel

theorem test_witness_fibre_frames :
    (oneCell .hold).fibreAssembly = { cells := cellsFor (udpFrame 0 0 1).length, ignoring := false }
      ∧ (oneCell .hold).isProbeReply (udpFrame 0 0 1) = false ∧ (oneCell .normal).service.mode ≠ .hold := by
  decide +kernel

/-- The state with frames at the heads of the three FIFOs of the Premises port. -/
def fifos (priority fibre radio : List Bytes) (sending : Option PremisesSource) (mark : Uplink) : State :=
  { State.reset with
    egress := { priority := priority, sending := sending, lastServed := mark }
    downstream := { fibre := fibre, radio := radio } }

theorem test_witness_arbiter :
    let f := udpFrame 0 0 1
    (fifos [f] [] [] none .radio).egress.sending = none ∧ (fifos [f] [] [] none .radio).egress.priority ≠ []
      ∧ (fifos [] [f] [f] none .fibre).downstream.fibre ≠ [] ∧ (fifos [] [f] [f] none .fibre).egress.lastServed = .fibre
      ∧ (fifos [f] [] [] (some .priority) .radio).egress.sending = some .priority
      ∧ (fifos [f] [] [] (some .priority) .radio).egress.priority = [f]
      ∧ (fifos [] [f] [] (some .fibre) .radio).downstream.fibre = [f]
      ∧ (fifos [] [] [f] (some .radio) .radio).downstream.radio = [f] := by decide +kernel

/-- The flow of the worked hash on a path, ACTIVE or moving, with pending and held counts. -/
def flowOn (u : Uplink) (pending held : Nat) (move : Option Move) : FlowEntry :=
  { key := keyImage (readFields (udpFrame 0 0 5060)), cls := 5, uplink := u, lastSeen := 0
    fibrePending := match u with
      | .fibre => pending
      | .radio => 0
    radioPending := match u with
      | .fibre => 0
      | .radio => pending
    held := held, move := move }

/-- A frame of that flow. -/
def flowFrame : UpFrame := { data := udpFrame 0 0 5060, cls := some 5, arrival := 0, flow := some 376 }

/-- A begun part in a mode, in which a frame of that flow has arrived. -/
def withFlow (m : Mode) (e : FlowEntry) : State :=
  { oneCell m with
    steering := { strapHigh := false, begun := true, reserve := false }
    flows := [(376, e)] }

/-- A move to a path. -/
def moveTo (u : Uplink) : Move := { target := u, deadline := 50, overdue := false }

/-- The Fibre port sending a frame or probe. -/
def fibreSends (x : Option FibreTransmission) (s : State) : State := { s with fibre := { s.fibre with sending := x } }

theorem test_witness_fibre_transmissions :
    State.reset.fibre.sending = none ∧ (fibreSends (some (.probe [])) State.reset).fibre.sending = some (.probe [])
      ∧ (fibreSends (some (.frame (zeroFrame 60 0))) State.reset).fibre.sending = some (.frame (zeroFrame 60 0))
      ∧ (zeroFrame 60 0).flow = none ∧ flowFrame.flow = some 376
      ∧ (withFlow .normal (flowOn .fibre 1 0 none)).entry 376 = some (flowOn .fibre 1 0 none)
      ∧ (flowOn .fibre 1 0 none).move = none ∧ State.reset.monitor.state = .up
      ∧ (fibreIn .down false).monitor.state = .down ∧ State.reset.fibre.waitingProbe = none := by decide +kernel

theorem test_witness_handled :
    (withFlow .normal (flowOn .fibre 1 0 none)).premisesAssembly
        = { cells := cellsFor (udpFrame 0 0 5060).length, ignoring := false }
      ∧ 60 ≤ (udpFrame 0 0 5060).length
      ∧ (withFlow .normal (flowOn .fibre 1 0 none)).isControl (udpFrame 0 0 5060) = false
      ∧ (withFlow .normal (flowOn .fibre 1 0 none)).service.mode = .normal
      ∧ (withFlow .fallback (flowOn .radio 1 0 none)).service.mode = .fallback := by decide +kernel

theorem test_witness_learned_frames :
    let i := 376
    let s := withFlow .normal (flowOn .fibre 1 0 none)
    s.lookup (keyImage (readFields (udpFrame 0 0 5060))) = some i ∧ s.entry i = some (flowOn .fibre 1 0 none)
      ∧ (s.classEntry 5).policy ≠ .sticky ∧ s.fibreOccupancy + 1 ≤ s.station.fibreLimit ∧ 1 ≤ s.pool.free
      ∧ s.station.reserveFloor + 1 ≤ s.pool.free ∧ (flowOn .radio 0 0 none).radioPending = 0
      ∧ 0 < (flowOn .radio 1 0 none).radioPending ∧ 0 < (s.classEntry 5).drainTime ∧ s.held.length < 64
      ∧ (flowOn .radio 1 1 (some (moveTo .fibre))).move = some (moveTo .fibre) ∧ (moveTo .fibre).target = .fibre
      ∧ 64 ≤ ({ s with held := List.replicate 64 flowFrame } : State).held.length
      ∧ (moveTo .radio).target = .radio ∧ s.held.filter (UpFrame.ofFlow i) = [] := by decide +kernel

/-- A part in FALLBACK with a template, a bearer that waits for its retry, and a policy for class 5. -/
def radioFlow (p : Policy) (template level : Nat) : State :=
  { withFlow .fallback (flowOn .radio 0 0 none) with
    tunnel := { TunnelRecord.reset with templateLength := template }
    classes := State.reset.classes.set 5 { ClassEntry.reset with policy := p, level := level } }

theorem test_witness_radio_frames :
    let s := radioFlow .follow 28 3
    s.service.mode ≠ .normal ∧ s.lookup (keyImage (readFields (udpFrame 0 0 5060))) = some 376
      ∧ (s.classEntry 5).policy ≠ .fibreOnly ∧ s.admitted 5 = true ∧ s.bearer.state.carrying = false
      ∧ s.bearer.state ≠ .ready ∧ cellsOf (s.radioQueue 5) + 1 ≤ (s.classEntry 5).queueLimit
      ∧ s.station.reserveFloor + 1 ≤ s.pool.free ∧ (radioFlow .follow 0 3).admitted 5 = false
      ∧ ((radioFlow .fibreOnly 28 3).classEntry 5).policy = .fibreOnly
      ∧ (radioFlow .fibreOnly 28 3).station.force ≠ .radio := by decide +kernel

/-- That part with the fibre DOWN and the mode that follows, the bearer in a state, a retry timer, a class credit, the
staged slot and the transfer. -/
def radioServing (r : RadioState) (retry : Option Reading) (credit : Int) (staged : Option UpFrame) : State :=
  let timer (b : Bool) : Option Reading := if b then some 100 else none
  { radioFlow .follow 28 3 with
    monitor := (fibreIn .down false).monitor
    service := { mode := .fallback, fibreOut := true, lamp := true }
    link := { State.reset.link with up := true, silence := some 100 }
    bearer :=
      { state := r, openTimer := timer (decide (r = .opening)), lingerTimer := timer (decide (r = .linger)),
        closingTimer := timer (decide (r = .closing)), retryTimer := retry }
    sender := { bearerSlot := none, staged := staged, transfer := some (.bearer .bearerOpen []) }
    scheduler := { Scheduler.reset with credit := Vector.replicate 8 credit } }

theorem test_witness_joining_frames :
    let f : UpFrame := { flowFrame with arrival := 0 }
    let joined (s : State) : State := s.setRadioQueue 5 [f]
    ServiceAgrees (radioServing .ready none 0 none) ∧ (radioServing .ready none 0 none).bearer.retryTimer = none
      ∧ ServiceAgrees (radioServing .opened none 0 none) ∧ ServiceAgrees (radioServing .linger none 1 none)
      ∧ (radioServing .opened none 0 (some f)).sender.staged ≠ none
      ∧ (∀ d, ((radioServing .opened none 0 none).classEntry d).sojournLimit = 0)
      ∧ (joined (radioServing .opened none 0 none)).chosen = none
      ∧ (joined (radioServing .linger none 1 none)).chosen = some 5
      ∧ (radioServing .linger none 1 none).sender.transfer ≠ none
      ∧ (radioServing .ready none 0 none).admitted 5 = true
      ∧ cellsOf ((radioServing .ready none 0 none).radioQueue 5) + 1 ≤
          ((radioServing .ready none 0 none).classEntry 5).queueLimit := by decide +kernel

/-- A part in NORMAL whose class 5 is STICKY and admitted, with a modem that waits for its retry and one flow. -/
def stickyFlow (e : FlowEntry) (drain : Nat) : State :=
  { withFlow .normal e with
    tunnel := { TunnelRecord.reset with templateLength := 28 }
    classes := State.reset.classes.set 5 { ClassEntry.reset with policy := .sticky, level := 3, drainTime := drain }
    bearer := { State.reset.bearer with state := .ready, retryTimer := some 100 } }

/-- A flow on RADIO stays there; one on FIBRE, and one whose class is not admitted, goes to FIBRE (R111). -/
theorem test_witness_sticky :
    (stickyFlow (flowOn .radio 0 0 none) 50).bearer.state.attached = true
      ∧ (stickyFlow (flowOn .radio 0 0 none) 50).admitted 5 = true
      ∧ ((stickyFlow (flowOn .radio 0 0 none) 50).classEntry 5).policy = .sticky
      ∧ radioQuiet (stickyFlow (flowOn .radio 0 0 none) 50)
      ∧ radioAdmits (stickyFlow (flowOn .radio 0 0 none) 50) 5 1
      ∧ fibreAdmits (stickyFlow (flowOn .fibre 0 0 none) 50) 1 3
      ∧ (withFlow .normal (flowOn .radio 0 0 none)).admitted 5 = false := by
  unfold radioQuiet radioAdmits fibreAdmits
  decide +kernel

/-- The serving part of above with a flow of class 5 and a drain time, waiting for its retry. -/
def serving (e : FlowEntry) (drain : Nat) : State :=
  { radioServing .ready (some 100) 0 none with
    flows := [(376, e)]
    classes := State.reset.classes.set 5 { ClassEntry.reset with level := 3, drainTime := drain } }

/-- A frame of the flow waits in the fibre egress queue. -/
def inQueue (s : State) : State := { s with fibre := { s.fibre with queue := [flowFrame] } }

/-- A frame of the flow is held. -/
def holding (s : State) : State := { s with held := [flowFrame] }

/-- Moves toward RADIO, with drain time 0 and without. -/
theorem test_witness_moves :
    radioQuiet (serving (flowOn .fibre 0 0 none) 50) ∧ (serving (flowOn .fibre 0 0 none) 50).service.mode ≠ .normal
      ∧ (flowOn .fibre 0 0 none).fibrePending = 0 ∧ 0 < ((serving (flowOn .fibre 1 0 none) 50).classEntry 5).drainTime
      ∧ ((serving (flowOn .fibre 1 0 none) 0).classEntry 5).drainTime = 0
      ∧ ((serving (flowOn .fibre 1 0 none) 0).classEntry 5).policy ≠ .fibreOnly
      ∧ (serving (flowOn .fibre 1 0 none) 0).admitted 5 = true := by
  unfold radioQuiet
  decide +kernel

/-- Drain time 0 with a frame waiting, or in transmission; reversals with a held frame on each path. -/
theorem test_witness_moves_accounted :
    FlowsAccounted (inQueue (serving (flowOn .fibre 1 0 none) 0))
      ∧ FlowsAccounted (fibreSends (some (.frame flowFrame)) (serving (flowOn .fibre 1 0 none) 0))
      ∧ FlowsAccounted (State.setRadioQueue (withFlow .normal (flowOn .radio 1 0 none)) 5 [flowFrame])
      ∧ FlowsAccounted (holding (inQueue (stickyFlow (flowOn .fibre 1 1 (some (moveTo .radio))) 50)))
      ∧ FlowsAccounted (holding (State.setRadioQueue (serving (flowOn .radio 1 1 (some (moveTo .fibre))) 50) 5 [flowFrame])) :=
  ⟨by decide +kernel, by decide +kernel, by decide +kernel, by decide +kernel, by decide +kernel⟩

theorem test_witness_unknown_keys :
    let s := { oneCell .normal with flows := [] }
    let image := keyImage (readFields (udpFrame 0 0 5060))
    let full : State := { s with flows := [376, 377, 378, 379].map fun i => (i, { flowOn .fibre 0 0 none with key := [] }) }
    let never : State := { s with classes := State.reset.classes.map fun e => { e with idleTimeout := 0 } }
    s.control.hold = none ∧ s.lookup image = none ∧ (s.classEntry (s.consult (readFields (udpFrame 0 0 5060))).1).idleTimeout ≠ 0
      ∧ s.freeWay image = some 376 ∧ full.lookup image = none ∧ full.freeWay image = none
      ∧ (full.startAt 0).evictWay image = some 376
      ∧ (never.classEntry (never.consult (readFields (udpFrame 0 0 5060))).1).idleTimeout = 0
      ∧ ({ s with control := { s.control with hold := some 5000 } } : State).control.hold ≠ none := by decide +kernel

theorem test_witness_header_fields :
    (List.replicate 12 (2 : Byte)).length = 12 ∧ (∀ v ∈ some (65535 : Nat), v < 65536) ∧ (0x0806 : Nat) ≠ 0x0800
      ∧ (List.replicate 40 (0 : Byte)).length + 20 = 4 * 15 ∧ ([] : Bytes).length + 20 = 4 * 5
      ∧ field 0 1 ([0x44] ++ List.replicate 39 0) % 16 < 5 ∧ field 0 1 (0x46 :: List.replicate 22 0) % 16 * 4 = 24
      ∧ (List.replicate 39 (0 : Byte)).length < 40 := by decide +kernel

theorem test_witness_rules :
    let s : State := { State.reset with rules := workedRules }
    s.rules[1].fits (readFields (udpFrame 0 0 5060)) = true ∧ s.rules[0].fits (readFields (udpFrame 0 0 5060)) = false
      ∧ ∀ i : Fin 64, s.rules[i].fits (readFields (udpFrame 0 0 443)) = false := by decide +kernel

theorem test_witness_aging :
    let s : State := { withFlow .normal (flowOn .fibre 0 0 none) with now := 61000 }
    s.entry 0 = none ∧ s.entry 376 = some (flowOn .fibre 0 0 none) ∧ (flowOn .fibre 0 0 none).move = none
      ∧ (s.classEntry 5).idleTimeout < 61 ∧ ¬(s.classEntry 5).idleTimeout < 60
      ∧ (flowOn .fibre 1 0 none).fibrePending ≠ 0 := by decide +kernel

/-- A flow moving to RADIO whose last frame is in transmission, and one moving to FIBRE with a frame in its queue. -/
def lastFrame : State :=
  fibreSends (some (.frame flowFrame)) (withFlow .normal (flowOn .fibre 1 0 (some (moveTo .radio))))

def movingHome : State :=
  let s := withFlow .normal (flowOn .radio 1 0 (some (moveTo .fibre)))
  { s with scheduler := { s.scheduler with queues := s.scheduler.queues.set 5 [flowFrame] } }

theorem test_witness_last_frame :
    FlowsAccounted lastFrame ∧ ServiceAgrees lastFrame
      ∧ lastFrame.fibre.sending = some (.frame flowFrame) ∧ flowFrame.flow = some 376
      ∧ lastFrame.entry 376 = some (flowOn .fibre 1 0 (some (moveTo .radio)))
      ∧ (flowOn .fibre 1 0 (some (moveTo .radio))).fibrePending = 1 ∧ lastFrame.bearer.state.carrying = false
      ∧ ∀ c, (lastFrame.classEntry c).sojournLimit = 0 := by decide +kernel

theorem test_witness_drain_deadline :
    FlowsAccounted movingHome ∧ movingHome.entry 376 = some (flowOn .radio 1 0 (some (moveTo .fibre)))
      ∧ (moveTo .fibre).overdue = false ∧ countOf 376 movingHome.committedFrames = 0
      ∧ countOf 376 (sendingFrames lastFrame.fibre.sending) ≠ 0 := by decide +kernel

/-- The flow's frame in transfer on the Modem link while the flow moves to FIBRE. -/
theorem test_witness_drain_deadline_committed :
    let s : State := { withFlow .normal (flowOn .radio 1 0 (some (moveTo .fibre))) with
      sender := { bearerSlot := none, staged := none, transfer := some (.data flowFrame 96 []) } }
    FlowsAccounted s ∧ countOf 376 s.committedFrames ≠ 0 := by decide +kernel

/-- No deadline is left to pass: a free way, an ACTIVE flow, an overdue one. -/
theorem test_witness_no_drain_deadline :
    State.reset.entry 376 = none ∧ (flowOn .radio 1 0 none).move = none
      ∧ (flowOn .radio 1 0 (some { moveTo .fibre with overdue := true })).move = some { moveTo .fibre with overdue := true } :=
  ⟨rfl, rfl, rfl⟩

/-- In NORMAL with a frame of the flow waiting and one in transmission, the flow on its way to RADIO; and a flow on its way
to FIBRE. -/
theorem test_witness_flush :
    let leaving : State :=
      { withFlow .normal (flowOn .fibre 2 0 (some (moveTo .radio))) with
        fibre := { queue := [flowFrame], sending := some (.frame flowFrame), waitingProbe := none } }
    ServiceAgrees leaving ∧ leaving.lightLost = false ∧ leaving.monitor.state = .up ∧ leaving.steering.begun = true
      ∧ leaving.station.force ≠ .fibre ∧ FlowsAccounted leaving ∧ CountersWf leaving
      ∧ countOf 376 (sendingFrames leaving.fibre.sending) ≠ 0 ∧ FlowsAccounted movingHome ∧ ServiceAgrees movingHome
      ∧ State.reset.steering.begun = false := by decide +kernel

/-- OPEN with the flow's frame staged, its move to FIBRE overdue, and one queued behind it. -/
def stagedFlow (overdue : Bool) (queued : List UpFrame) : State :=
  let s := radioServing .opened none 0 (some { flowFrame with waited := true })
  State.setRadioQueue { s with
    flows := [(376, flowOn .radio (queued.length + 1) 0 (some { moveTo .fibre with overdue := overdue }))]
    link := { s.link with assembly := { cells := 1, headCounted := false, skipping := false } } } 5 queued

theorem test_witness_unstaging :
    recordEnds (stagedFlow false []) (statusBytes 1 0 63) (.status false [1, 0, 63]) 1 ∧ statusContents [1, 0, 63] = true
      ∧ ServiceAgrees (stagedFlow false []) ∧ ServiceAgrees (stagedFlow true [flowFrame])
      ∧ (stagedFlow true []).entry 376 = some (flowOn .radio 1 0 (some { moveTo .fibre with overdue := true })) := by
  unfold recordEnds
  decide +kernel

theorem test_witness_unstaging_accounted :
    FlowsAccounted (stagedFlow false []) ∧ FlowsAccounted (stagedFlow true [])
      ∧ FlowsAccounted (stagedFlow true [flowFrame]) ∧ BearerAgrees (stagedFlow false [])
      ∧ BearerAgrees (stagedFlow true [flowFrame]) :=
  ⟨by decide +kernel, by decide +kernel, by decide +kernel, by decide +kernel, by decide +kernel⟩

/-- A frame whose wait has been counted keeps that mark when it is unstaged (R146). -/
theorem test_waited_survives_unstaging :
    nextHas (exec (.statusRecord 0 (statusBytes 1 0 63)) (stagedFlow false []))
      (fun t => t.sender.staged = none && t.radioQueue 5 = [{ flowFrame with waited := true }]) = true := by decide +kernel

theorem test_witness_sojourn :
    FlowsAccounted (radioServing .opened none 0 none) ∧ CountersWf (radioServing .opened none 0 none)
      ∧ (radioServing .opened none 0 none).bearer.state.carrying = true
      ∧ (radioServing .opened none 0 none).sender.transfer ≠ none := by decide +kernel

theorem test_witness_reserve :
    let on : State := { State.reset with steering := { State.reset.steering with reserve := true } }
    State.reset.steering.reserve = false ∧ on.steering.reserve = true ∧ on.queuedFrames = [] ∧ ServiceAgrees on
      ∧ State.reset.queuedFrames = [] ∧ ServiceAgrees State.reset := by decide +kernel

/-- The part with the link up, in a radio state with its timers, a record of one cell in the assembly. -/
def radioIn (r : RadioState) : State :=
  let timer (b : Bool) : Option Reading := if b then some 100 else none
  { State.reset with
    link := { State.reset.link with
      up := decide (r ≠ .absent), silence := timer (decide (r ≠ .absent)),
      assembly := { cells := 1, headCounted := false, skipping := false } }
    bearer :=
      { state := r, openTimer := timer (decide (r = .opening)), lingerTimer := timer (decide (r = .linger)),
        closingTimer := timer (decide (r = .closing)), retryTimer := none } }

theorem test_witness_status :
    recordEnds (radioIn .opened) (statusBytes 1 1 63) (.status false [1, 1, 63]) 1 ∧ statusContents [1, 1, 63] = true
      ∧ (radioIn .opened).openDemand = false ∧ (radioIn .opened).bearer.state.attached = true := by
  unfold recordEnds
  decide +kernel

/-- The link lost in OPEN with one cell of a record taken. -/
def linkLost : State :=
  (State.linkLoss { radioIn .opened with pool := { free := 2047, low := false } }).settle

/-- A record that meets the silence timer's expiry, the expiry taken first: a STATUS takes the link up again at once, and a
GRANT is counted as received and discarded (R83). -/
theorem test_record_meets_expiry :
    linkLost.link.up = false ∧ linkLost.pool.free = 2048 ∧ linkLost.link.assembly.cells = 0
      ∧ nextHas (exec (.statusRecord 0 (statusBytes 1 1 63)) linkLost)
          (fun t => t.link.up && t.bearer.state = .ready && t.lastSignal = 63 && t.link.assembly = ModemAssembly.empty
            && t.pool.free = 2048) = true
      ∧ nextHas (exec (.grantRecord 0 (recordBytes 0x83 [0x0B, 0xB8, 0, 20])) linkLost)
          (fun t => !t.link.up && t.counter ctrRecordsReceived = 1 && t.counter ctrStrayGrants = 0) = true := by
  decide +kernel

/-- After link loss a later cell of the same record is no event, and cell 0 begins the next record (log 30). -/
theorem test_cells_after_expiry :
    let head := (recordBytes 0x81 (List.replicate 300 0)).take 4
    nextHas (exec (.modemCellTake 0 head 1) linkLost) (fun t => t.link = linkLost.link && t.pool = linkLost.pool) = true
      ∧ nextHas (exec (.modemCellTake 0 head 0) linkLost)
          (fun t => t.link.assembly.cells = 1 && !t.link.assembly.released) = true := by decide +kernel

theorem test_witness_record_meets_expiry :
    recordEnds linkLost (statusBytes 1 1 63) (.status false [1, 1, 63]) 1 ∧ linkLost.link.assembly.released = true := by
  unfold recordEnds
  decide +kernel

theorem test_witness_status_agreement :
    BearerAgrees (radioIn .opened) ∧ ServiceAgrees (radioIn .opened) ∧ BearerAgrees (radioIn .absent)
      ∧ ServiceAgrees (radioIn .absent) ∧ BearerAgrees (radioIn .ready) :=
  ⟨⟨by decide +kernel, by decide +kernel, by decide +kernel, by decide +kernel⟩, by decide +kernel,
    ⟨by decide +kernel, by decide +kernel, by decide +kernel, by decide +kernel⟩, by decide +kernel,
    ⟨by decide +kernel, by decide +kernel, by decide +kernel, by decide +kernel⟩⟩

/-- Pre-open demand: SUSPECT in a begun part with pre-open set. -/
theorem test_witness_status_open_demand :
    let s : State := { radioIn .searching with
      radio := { RadioRecord.reset with preOpen := true }
      steering := { State.reset.steering with begun := true }
      service := { mode := .normal, fibreOut := false, lamp := false }
      monitor := (fibreIn .suspect false).monitor }
    s.openDemand = true ∧ BearerAgrees s ∧ ServiceAgrees s ∧ s.bearer.state = .searching := by decide +kernel

/-- A GRANT of 3000 bytes over 20 ms. -/
def grantBytes : Bytes := recordBytes 0x83 [0x0B, 0xB8, 0, 20]

theorem test_witness_grant :
    recordEnds (radioIn .opened) grantBytes (.grant false [0x0B, 0xB8, 0, 20]) 1
      ∧ grantContents [0x0B, 0xB8, 0, 20] = true ∧ (radioIn .absent).link.up = false
      ∧ (radioIn .ready).bearer.state.carrying = false ∧ (radioIn .linger).bearer.state.carrying = true
      ∧ (radioIn .opened).sender.bearerSlot = none ∧ (radioIn .opened).sender.staged = none
      ∧ carrierLength State.reset.tunnel (zeroFrame 1536 0).data.length ≤ 3000 := by
  unfold recordEnds
  decide +kernel

/-- A downstream DATA record with a frame of 60 bytes. -/
def dataPayload : Bytes := carrierHeader 0 0 7 68 ++ List.replicate 60 0

theorem test_witness_data :
    recordEnds (radioIn .linger) (recordBytes 0x81 dataPayload) (.data false dataPayload) (cellsFor dataPayload.length)
      ∧ (radioIn .linger).link.up = true ∧ (radioIn .linger).bearer.state = .linger ∧ (radioIn .absent).link.up = false := by
  unfold recordEnds
  decide +kernel

theorem test_witness_bad_records :
    recordEnds State.reset [1, 2, 3] .headerError 0
      ∧ recordEnds State.reset ((recordBytes 0x81 (List.replicate 1665 0)).take 4) (.overLength false) 0
      ∧ recordEnds State.reset (recordBytes 0x81 [] ++ [0]) (.payloadError false) 0
      ∧ recordEnds State.reset (recordBytes 0x55 []) (.unknownKind false 0) (cellsFor 0)
      ∧ recordEnds (radioIn .ready) (statusBytes 2 0 0) (.status false [2, 0, 0]) (cellsFor 3)
      ∧ statusContents [2, 0, 0] = false ∧ statusContents [1, 0, 64] = false
      ∧ recordEnds (radioIn .ready) (recordBytes 0x83 [0, 0, 0, 101]) (.grant false [0, 0, 0, 101]) (cellsFor 4)
      ∧ grantContents [0, 0, 0, 101] = false ∧ grantContents [0, 0, 0, 100] = true := by
  unfold recordEnds
  decide +kernel

theorem test_witness_skipping :
    let s : State := { State.reset with link := { State.reset.link with
      assembly := { cells := 0, headCounted := false, skipping := true } } }
    s.link.assembly.skipping = true ∧ judgeRecord [1, 2, 3] = .headerError
      ∧ judgeRecord (recordBytes 0x55 []) = .unknownKind false 0 := by decide +kernel

theorem test_witness_silence :
    State.reset.link.silence = none ∧ (radioIn .ready).link.silence = some 100 ∧ FlowsAccounted (radioIn .ready) := by
  decide +kernel

/-- The transmit side with a bearer record, a staged frame and a transfer. -/
def sending (slot : Option BearerRecord) (staged : Option UpFrame) (x : Option Transfer) (balance : Nat) : State :=
  { radioIn .opened with
    sender := { bearerSlot := slot, staged := staged, transfer := x }
    scheduler := { Scheduler.reset with balance := balance } }

/-- A staged frame of 60 bytes. -/
def stagedFrame : UpFrame := zeroFrame 60 0

theorem test_witness_transfers :
    (sending none none none 0).link.up = true ∧ (sending (some .bearerOpen) none none 0).sender.transfer = none
      ∧ (sending (some .bearerOpen) none none 0).sender.bearerSlot = some .bearerOpen
      ∧ (sending none (some stagedFrame) none 67).sender.staged = some stagedFrame
      ∧ carrierLength State.reset.tunnel stagedFrame.data.length = 68
      ∧ (sending none (some stagedFrame) none 67).scheduler.balance < 68
      ∧ 68 ≤ (sending none (some stagedFrame) none 68).scheduler.balance
      ∧ (sending none none (some (.bearer .bearerClose [])) 0).sender.transfer = some (.bearer .bearerClose [])
      ∧ (sending none none (some (.data (zeroFrame 60 0) 68 [])) 0).sender.staged = none
      ∧ ServiceAgrees (sending none none (some (.data (zeroFrame 60 0) 68 [])) 0)
      ∧ Allowance.ceilingNow { Allowance.reset with used := 68 } = Allowance.reset.ceiling
      ∧ (zeroFrame 60 0).flow = none := by decide +kernel

theorem test_witness_bearer_timers :
    (radioIn .opening).bearer.openTimer = some 100 ∧ (radioIn .linger).bearer.lingerTimer = some 100
      ∧ (radioIn .closing).bearer.closingTimer = some 100 ∧ (radioIn .closing).bearer.retryTimer = none
      ∧ ServiceAgrees (radioIn .closing) ∧ State.reset.bearer.openTimer = none ∧ State.reset.bearer.lingerTimer = none
      ∧ State.reset.bearer.closingTimer = none ∧ State.reset.bearer.retryTimer = none
      ∧ State.reset.openDemand = false := by decide +kernel

theorem test_witness_retry_timer :
    let s : State := { radioIn .ready with
      bearer := { (radioIn .ready).bearer with retryTimer := some 100 }
      radio := { RadioRecord.reset with preOpen := true }
      steering := { State.reset.steering with begun := true }
      service := { mode := .normal, fibreOut := false, lamp := false }
      monitor := (fibreIn .suspect false).monitor }
    s.bearer.retryTimer = some 100 ∧ s.bearer.state = .ready ∧ s.openDemand = true ∧ ServiceAgrees s := by
  decide +kernel

/-- OPEN with a template and two frames in the queue of class 2, of level 0, while a bearer record is in transfer. -/
def selecting (run : Option TrafficClass) (count : Nat) : State :=
  { sending none none (some (.bearer .bearerOpen [])) 0 with
    tunnel := { TunnelRecord.reset with templateLength := 28 }
    classes := (State.reset.classes.set 2 { ClassEntry.reset with level := 0 }).set 5 { ClassEntry.reset with level := 0 }
    scheduler := { Scheduler.reset with
      queues := (Scheduler.reset.queues.set 2 [zeroFrame 60 2, zeroFrame 64 2]).set 5 [zeroFrame 60 5]
      credit := Vector.replicate 8 1, runClass := run, runCount := count } }

theorem test_witness_refill :
    State.reset.bearer.state.carrying = false ∧ (selecting none 0).bearer.state = .opened
      ∧ (selecting none 0).sender.staged = none ∧ (selecting none 0).sender.transfer ≠ none
      ∧ (∀ d, ((selecting none 0).classEntry d).sojournLimit = 0)
      ∧ (selecting none 0).chosen = some 2 ∧ (selecting none 0).radioQueue 2 = [zeroFrame 60 2, zeroFrame 64 2]
      ∧ (sending none (some stagedFrame) none 0).sender.staged ≠ none
      ∧ (sending none (some stagedFrame) none 0).bearer.state.carrying = true := by decide +kernel

/-- The run limit makes class 2 yield to class 5 (R145). -/
theorem test_witness_selection :
    (∀ c, ((selecting none 0).classEntry c).level ≤ 7) ∧ (selecting (some 2) 8).chosen = some 5
      ∧ (selecting (some 2) 7).chosen = some 2 ∧ State.reset.chosen = none := by decide +kernel

/-- A control frame with one HOLD request. -/
def holdFrame : Bytes := addrBytes 0 ++ addrBytes 2 ++ [0x9A, 0x21, 1, 6] ++ List.replicate 12 0 ++ List.replicate 32 0

/-- The Control Unit with frames in its queue and a frame in execution. -/
def controlled (queue : List Bytes) (x : Option Execution) : State :=
  { State.reset with control := { State.reset.control with queue := queue, execution := x } }

/-- The execution of a frame with one request. -/
def executing (todo : List Request) : Execution :=
  { todo := todo, results := [], requests := 1, largest := 512, replyCells := 5, broadcast := false, restart := false }

theorem test_witness_control_frames :
    (controlled [holdFrame] none).control.execution = none ∧ State.reset.control.queue = []
      ∧ (controlled [holdFrame] none).control.restartDue = false ∧ (controlled [holdFrame] none).control.queue = [holdFrame]
      ∧ parseFrame holdFrame ≠ none ∧ parseFrame (List.replicate 60 0) = none
      ∧ State.reset.egress.priority.length < 4 ∧ (512 + 14 + 127) / 128 ≤ State.reset.pool.free
      ∧ (arriving 0 4).pool.free < (512 + 14 + 127) / 128 ∧ State.reset.control.hold = none
      ∧ ({ State.reset with control := { State.reset.control with hold := some 5000 } } : State).control.hold = some 5000 := by
  decide +kernel

/-- A request of a kind on a table, with an index, a field-select set and data. -/
def request (kind table index select : Nat) (data : Bytes) : Request :=
  { kind := kind, table := table, index := index, count := 1, options := 0, select := select, data := data }

theorem test_witness_replies :
    let idle := controlled [holdFrame] (some (executing []))
    idle.control.execution = some (executing []) ∧ (executing []).todo = [] ∧ idle.control.queue = [holdFrame]
      ∧ (executing [request 6 0 0 0 []]).todo ≠ [] ∧ 12 ≤ holdFrame.length
      ∧ ({ executing [] with results := [plainResult (request 6 0 0 0 []) false] } : Execution).results.length = 1 := by
  decide +kernel

theorem test_witness_restart :
    State.reset.control.restartDue = false
      ∧ ({ State.reset with control := { State.reset.control with restartDue := true } } :
          State).control.restartDue = true
      ∧ ServiceAgrees { State.reset with control := { State.reset.control with restartDue := true } } := by decide +kernel

/-- A part with a notice address and the cause MODE pending. -/
def noticeDue (last : Option Reading) : State :=
  { State.reset with
    station := { State.reset.station with noticeAddress := 9 }
    notices := { causes := { Causes.empty with mode := true }, last := last } }

theorem test_witness_notices :
    (noticeDue none).notices.causes ≠ Causes.empty ∧ (noticeDue none).station.noticeAddress ≠ 0
      ∧ (noticeDue none).egress.priority.length < 4 ∧ 1 ≤ (noticeDue none).pool.free ∧ (noticeDue none).pool.low = false
      ∧ (noticeDue none).station.reserveFloor < (noticeDue none).pool.free
      ∧ (noticeDue (some 50)).notices.last = some 50 ∧ State.reset.notices.causes = Causes.empty := by decide +kernel

/-- A part executing a frame with one request. -/
def requested (r : Request) : State := controlled [holdFrame] (some (executing [r]))

/-- The request asks for an action in a part that executes it. -/
theorem test_witness_next_requests :
    [(2, 1, Action.read .station), (2, 2, .read .rules), (2, 3, .read .classes), (2, 4, .read .flows), (2, 5, .read .probe),
      (2, 6, .read .radio), (2, 7, .read .tunnel), (2, 8, .read .allowance), (2, 9, .read .snapshot),
      (2, 10, .read .counters), (1, 0, .discover), (3, 1, .write .station), (3, 2, .write .rules), (3, 3, .write .classes),
      (3, 5, .write .probe), (3, 6, .write .radio), (3, 7, .write .tunnel), (3, 8, .write .allowance), (4, 4, .delete),
      (5, 0, .flushFlows), (6, 0, .hold), (7, 0, .release), (8, 0, .beginService), (9, 0, .restart), (10, 0, .newPeriod),
      (11, 0, .setUsed), (12, 0, .refused .badKind), (2, 11, .refused .badTable)].all
      (fun k =>
        decide ((request k.1 k.2.1 0 0 []).action false = k.2.2
          ∧ (requested (request k.1 k.2.1 0 0 [])).control.execution = some (executing [request k.1 k.2.1 0 0 []])
          ∧ (executing [request k.1 k.2.1 0 0 []]).todo.head? = some (request k.1 k.2.1 0 0 []))) = true := by
  decide +kernel

theorem test_witness_reads : (request 2 3 7 0 []).index ≤ 7 ∧ 7 < (request 2 3 8 0 []).index := by decide

theorem test_witness_writes :
    7 < (request 3 3 8 0 []).index ∧ selectFields classSizes 0 1 [] = none
      ∧ selectFields classSizes 0 1 [3] = some [some [3], none, none, none, none, none, none, none, none]
      ∧ (requested (request 3 2 0 1 [1])).control.hold = none
      ∧ ({ requested (request 3 2 0 1 [1]) with
            control := { (requested (request 3 2 0 1 [1])).control with hold := some 5000 } } : State).control.hold ≠ none := by
  decide +kernel

theorem test_witness_table_requests :
    1023 < (request 4 4 1024 0 []).index ∧ (request 4 4 1023 0 []).index ≤ 1023 ∧ State.reset.entry 1023 = none
      ∧ (withFlow .normal (flowOn .fibre 0 0 none)).entry 376 = some (flowOn .fibre 0 0 none)
      ∧ (flowOn .fibre 0 0 none).idle = true ∧ (flowOn .fibre 1 0 none).idle = false := by decide +kernel

theorem test_witness_service_requests :
    State.reset.steering.begun = false ∧ normalState.steering.begun = true ∧ (request 11 0 0 0 [1]).data.length < 5
      ∧ 5 ≤ (request 11 0 0 0 [1, 2, 3, 4, 5]).data.length := by decide +kernel

theorem test_witness_records_unchanged : ∃ u, exec (.transferBegin 0) State.reset = .next u := ⟨_, rfl⟩

end Sys2Proof.Tests
end

section
/-! PROOF. The bucket of a flow key (R23): the ones-complement sum of its key image, and the lengths of key images. -/

namespace Sys2Proof.Machine

/-! ## The ones-complement sum -/

/-- A carry out of the top bit comes back as 1 in the lowest (R23). -/
theorem onesAdd_eq_endAroundCarry {a b : Nat} (ha : a < 65536) (hb : b < 65536) :
    onesAdd a b = if a + b < 65536 then a + b else (a + b) % 65536 + 1 := by
  simp only [onesAdd]
  split <;> omega

theorem onesAdd_lt {a b : Nat} (ha : a < 65536) (hb : b < 65536) : onesAdd a b < 65536 := by
  simp only [onesAdd]
  split <;> omega

theorem onesAdd_zero_left {b : Nat} (hb : b < 65536) : onesAdd 0 b = b := by simp [onesAdd, hb]

/-- Two bytes, the first the more significant, make a 16-bit word. -/
theorem word_lt (a b : Byte) : a.toNat * 256 + b.toNat < 65536 := by
  have ha := a.isLt
  have hb := b.isLt
  omega

theorem onesSumFrom_lt (acc : Nat) (bs : Bytes) (hacc : acc < 65536) : onesSumFrom acc bs < 65536 := by
  induction acc, bs using onesSumFrom.induct with
  | case1 acc => exact hacc
  | case2 acc b =>
    have hb := b.isLt
    rw [onesSumFrom]
    exact onesAdd_lt hacc (by omega)
  | case3 acc a b rest ih => exact ih (onesAdd_lt hacc (word_lt a b))

/-- After whole words the sum goes on from what it has reached. -/
theorem onesSumFrom_append (acc : Nat) (bs rest : Bytes) (heven : bs.length % 2 = 0) :
    onesSumFrom acc (bs ++ rest) = onesSumFrom (onesSumFrom acc bs) rest := by
  induction acc, bs using onesSumFrom.induct with
  | case1 acc => rfl
  | case2 acc b => simp at heven
  | case3 acc a b tail ih =>
    have htail : tail.length % 2 = 0 := by simpa [Nat.add_assoc] using heven
    exact ih htail

theorem onesSum_lt (image : Bytes) : onesSum image < 65536 := onesSumFrom_lt 0 image (by decide)

/-- One more word is added to the sum of the words before it. -/
theorem onesSum_append_word (image : Bytes) (a b : Byte) (heven : image.length % 2 = 0) :
    onesSum (image ++ [a, b]) = onesAdd (onesSum image) (a.toNat * 256 + b.toNat) :=
  onesSumFrom_append 0 image [a, b] heven

/-- The image of a non-IP key is a zero word and its ethertype, whose low byte is the bucket. -/
theorem bucketOf_nonIp (high low : Byte) : bucketOf [0, 0, high, low] = low.toNat := by
  have hsum : onesSum [0, 0, high, low] = high.toNat * 256 + low.toNat := by
    simp [onesSum, onesSumFrom, onesAdd_zero_left, word_lt]
  have hlow := low.isLt
  simp only [bucketOf, hsum]
  omega

/-! ## The length of a key image -/

@[simp] theorem beBytes_length (n v : Nat) : (beBytes n v).length = n := by
  induction n generalizing v with
  | zero => rfl
  | succ n ih => simp [beBytes, ih]

theorem slice_length {offset n : Nat} {bs : Bytes} (h : offset + n ≤ bs.length) : (slice offset n bs).length = n := by
  simp only [slice, List.length_take, List.length_drop]
  omega

/-- The bytes of an address in a key of a kind: 4 for IPv4, 16 otherwise (R7). -/
def KeyKind.addressBytes (k : KeyKind) : Nat := if k = .ipv4 then 4 else 16

/-- An IPv4 header is accepted only if all of it, at least 20 bytes, lies within the frame (R3). -/
theorem readIpv4_addresses {data : Bytes} {o : Nat} {h : IpHeader} (hread : readIpv4 data o = some h) :
    h.source.length = h.kind.addressBytes ∧ h.dest.length = h.kind.addressBytes := by
  simp only [readIpv4] at hread
  split at hread
  case isTrue haccept =>
    obtain ⟨-, -, hleast, hwithin⟩ := haccept
    cases hread
    exact ⟨slice_length (by omega), slice_length (by omega)⟩
  case isFalse => cases hread

/-- An IPv6 header is accepted only if its 40 bytes lie within the frame (R4). -/
theorem readIpv6_addresses {data : Bytes} {o : Nat} {h : IpHeader} (hread : readIpv6 data o = some h) :
    h.source.length = h.kind.addressBytes ∧ h.dest.length = h.kind.addressBytes := by
  simp only [readIpv6] at hread
  split at hread
  case isTrue haccept =>
    obtain ⟨hwithin, -⟩ := haccept
    cases hread
    exact ⟨slice_length (by omega), slice_length (by omega)⟩
  case isFalse => cases hread

/-- The ethertype alone decides which header is read; a tag moves where it is read (R2 to R4). -/
theorem readFields_ip_eq (frame : Bytes) : ∃ etherType o, (readFields frame).ip =
    if etherType = 0x0800 then readIpv4 frame o else if etherType = 0x86DD then readIpv6 frame o else none :=
  ⟨_, _, rfl⟩

/-- The header of a frame, where one is accepted, was read as IPv4 or as IPv6. -/
theorem readFields_ip_cases {frame : Bytes} {h : IpHeader} (hip : (readFields frame).ip = some h) :
    ∃ o, readIpv4 frame o = some h ∨ readIpv6 frame o = some h := by
  obtain ⟨etherType, o, heq⟩ := readFields_ip_eq frame
  rw [heq] at hip
  split at hip
  case isTrue => exact ⟨o, .inl hip⟩
  case isFalse =>
    split at hip
    case isTrue => exact ⟨o, .inr hip⟩
    case isFalse => cases hip

theorem readFields_addresses {frame : Bytes} {h : IpHeader} (hip : (readFields frame).ip = some h) :
    h.source.length = h.kind.addressBytes ∧ h.dest.length = h.kind.addressBytes := by
  obtain ⟨o, hread | hread⟩ := readFields_ip_cases hip
  · exact readIpv4_addresses hread
  · exact readIpv6_addresses hread

theorem keyImage_length_of_nonIp {f : Fields} (hip : f.ip = none) : (keyImage f).length = 4 := by
  simp [keyImage, hip]

/-- Beside its two addresses the image of an IP key has four bytes before them and four after (R7). -/
theorem keyImage_length_of_ip {f : Fields} {h : IpHeader} (hip : f.ip = some h) :
    (keyImage f).length = h.source.length + h.dest.length + 8 := by
  simp only [keyImage, hip, List.length_append, List.length_cons, List.length_nil, beBytes_length]
  omega

theorem keyImage_readFields_length (frame : Bytes) :
    (keyImage (readFields frame)).length =
      match (readFields frame).ip with
      | none => 4
      | some header => if header.kind = .ipv4 then 16 else 40 := by
  cases hip : (readFields frame).ip with
  | none => exact keyImage_length_of_nonIp hip
  | some h =>
    obtain ⟨hsource, hdest⟩ := readFields_addresses hip
    rw [keyImage_length_of_ip hip, hsource, hdest, KeyKind.addressBytes]
    by_cases hkind : h.kind = .ipv4 <;> simp [hkind]

/-- Settles O15: the words before the last are summed as they stand alone, each word and sum stays below 65536, and the
addresses of an accepted header lie wholly within the frame. -/
theorem bucketIsTheOnesComplementFold : Obligations.BucketIsTheOnesComplementFold :=
  ⟨rfl, onesSum_append_word, fun _ _ => onesAdd_eq_endAroundCarry, fun image => ⟨onesSum_lt image, rfl⟩,
    bucketOf_nonIp, keyImage_readFields_length⟩

end Sys2Proof.Machine
end

section
/-! PROOF. The header check byte (R78): the syndrome read bit by bit, the bits above it, and its place in a record. -/

namespace Sys2Proof.Machine

/-! ## The syndrome -/

/-- In an exclusive-or of chosen numbers a bit is 1 if an odd number of them have it. -/
theorem testBit_foldl_xor (p : Nat → Bool) (code : Nat → Nat) (j : Nat) (is : List Nat) (acc : Nat) :
    (is.foldl (fun acc i => if p i then acc ^^^ code i else acc) acc).testBit j =
      (acc.testBit j ^^ decide ((is.filter fun i => p i && (code i).testBit j).length % 2 = 1)) := by
  induction is generalizing acc with
  | nil => simp
  | cons i is ih =>
    rw [List.foldl_cons, ih]
    by_cases hchosen : p i && (code i).testBit j
    · obtain ⟨hp, hbit⟩ := Bool.and_eq_true_iff.mp hchosen
      have hflip (n : Nat) : decide ((n + 1) % 2 = 1) = !decide (n % 2 = 1) := by
        rw [← decide_not, decide_eq_decide]
        omega
      simp [hp, hbit, hflip]
    · have hsame : (if p i then acc ^^^ code i else acc).testBit j = acc.testBit j := by
        cases hp : p i <;> simp_all
      rw [hsame, List.filter_cons, if_neg hchosen]

theorem testBit_syndrome (header : BitVec 24) (j : Nat) : (syndrome header).testBit j = parityOfCodes header j := by
  simp only [syndrome, testBit_foldl_xor, Nat.zero_testBit, Bool.false_xor, parityOfCodes]

theorem headerCodes_lt : ∀ i < 24, headerCodes.getD i 0 < 2 ^ 5 := by decide

/-- The syndrome is a 5-bit value, for no code has a bit above bit 4. -/
theorem syndrome_lt (header : BitVec 24) : syndrome header < 2 ^ 5 := by
  refine Nat.lt_pow_two_of_testBit _ fun j hj => ?_
  have hnone : ∀ i ∈ List.range 24, ¬(header.getLsbD i && (headerCodes.getD i 0).testBit j) = true := by
    intro i hi
    have hcode : headerCodes.getD i 0 < 2 ^ j :=
      Nat.lt_of_lt_of_le (headerCodes_lt i (List.mem_range.mp hi)) (Nat.pow_le_pow_right (by decide) hj)
    rw [Nat.testBit_lt_two_pow hcode, Bool.and_false]
    exact Bool.false_ne_true
  rw [testBit_syndrome, parityOfCodes, List.filter_eq_nil_iff.mpr hnone]
  rfl

/-! ## The check byte -/

/-- The check byte is the syndrome with a bit 7 that makes the number of 1s even. -/
theorem headerCheck_eq (header : BitVec 24) : ∃ bit7 < 2, headerCheck header = 2 ^ 7 * bit7 + syndrome header
    ∧ (onesCount 24 header.toNat + onesCount 5 (syndrome header) + bit7) % 2 = 0 :=
  ⟨(onesCount 24 header.toNat + onesCount 5 (syndrome header)) % 2, by omega, Nat.add_comm _ _, by omega⟩

theorem headerCheck_lt (header : BitVec 24) : headerCheck header < 256 := by
  obtain ⟨bit7, hbit7, hcheck, -⟩ := headerCheck_eq header
  have hsyndrome := syndrome_lt header
  omega

/-- Below bit 7 the check byte is the syndrome. -/
theorem testBit_headerCheck (header : BitVec 24) {j : Nat} (hj : j < 7) :
    (headerCheck header).testBit j = (syndrome header).testBit j := by
  obtain ⟨bit7, -, hcheck, -⟩ := headerCheck_eq header
  have hsyndrome : syndrome header < 2 ^ 7 := Nat.lt_trans (syndrome_lt header) (by decide)
  rw [hcheck, Nat.testBit_two_pow_mul_add bit7 hsyndrome, if_pos hj]

/-- Check bits 5 and 6 are 0. -/
theorem testBit_headerCheck_unused (header : BitVec 24) {j : Nat} (h5 : 5 ≤ j) (h7 : j < 7) :
    (headerCheck header).testBit j = false := by
  rw [testBit_headerCheck header h7]
  exact Nat.testBit_lt_two_pow (Nat.lt_of_lt_of_le (syndrome_lt header) (Nat.pow_le_pow_right (by decide) h5))

theorem onesCount_congr {n v w : Nat} (h : ∀ j < n, v.testBit j = w.testBit j) : onesCount n v = onesCount n w := by
  rw [onesCount, onesCount, List.filter_congr fun j hj => h j (List.mem_range.mp hj)]

/-- The header bits, check bits 0 to 4 and check bit 7 together hold an even number of 1s. -/
theorem headerCheck_parity (header : BitVec 24) :
    (onesCount 24 header.toNat + onesCount 5 (headerCheck header) + headerCheck header / 128) % 2 = 0 := by
  have hlow : onesCount 5 (headerCheck header) = onesCount 5 (syndrome header) :=
    onesCount_congr fun j hj => testBit_headerCheck header (by omega)
  obtain ⟨bit7, -, hcheck, heven⟩ := headerCheck_eq header
  have htop : headerCheck header / 128 = bit7 := by
    have hsyndrome := syndrome_lt header
    omega
  rw [hlow, htop]
  exact heven

/-- The check byte follows the three header bytes of a record (R77). -/
theorem recordBytes_check (kind : Nat) (payload : Bytes) :
    (recordBytes kind payload)[3]? = some (BitVec.ofNat 8 (headerCheck (headerOf kind payload.length))) := by
  simp [recordBytes, beBytes]

/-- Settles O17: a bit of the syndrome is the parity of the codes that have it, no code reaches bit 5, and bit 7 makes
the number of 1s even. -/
theorem headerCheckByteIsRight : Obligations.HeaderCheckByteIsRight :=
  ⟨by decide,
    fun header => ⟨headerCheck_lt header,
      fun j hj => (testBit_headerCheck header (by omega)).trans (testBit_syndrome header j),
      testBit_headerCheck_unused header (by decide) (by decide),
      testBit_headerCheck_unused header (by decide) (by decide), headerCheck_parity header⟩,
    by decide, recordBytes_check⟩

end Sys2Proof.Machine
end

section
/-! PROOF. The fix-ups of a carrier template (R154, R155): a number written over bytes and read back, ones-complement
addition modulo 65535, and what a length fix-up and the checksum fix-up write. -/

namespace Sys2Proof.Machine

/-! ## Numbers on the wire -/

theorem beNat_append_singleton (bs : Bytes) (b : Byte) : beNat (bs ++ [b]) = beNat bs * 256 + b.toNat := by
  simp only [beNat, List.foldl_append, List.foldl_cons, List.foldl_nil]

/-- Bytes read after the number `acc` leave it below the next number's place. -/
theorem foldl_bytes_lt (bs : Bytes) (acc : Nat) :
    bs.foldl (fun acc b => acc * 256 + b.toNat) acc < (acc + 1) * 256 ^ bs.length := by
  induction bs generalizing acc with
  | nil => simp only [List.foldl_nil, List.length_nil, Nat.pow_zero, Nat.mul_one, Nat.lt_add_one]
  | cons b bs ih =>
    have hb := b.isLt
    calc (b :: bs).foldl (fun acc b => acc * 256 + b.toNat) acc
      _ < (acc * 256 + b.toNat + 1) * 256 ^ bs.length := ih (acc * 256 + b.toNat)
      _ ≤ (acc + 1) * 256 * 256 ^ bs.length := Nat.mul_le_mul_right _ (by omega)
      _ = (acc + 1) * 256 ^ (b :: bs).length := by rw [List.length_cons, Nat.pow_succ', Nat.mul_assoc]

/-- Bytes spell a number below the power of 256 of their count. -/
theorem beNat_lt (bs : Bytes) : beNat bs < 256 ^ bs.length := by
  simpa only [beNat, Nat.zero_add, Nat.one_mul] using foldl_bytes_lt bs 0

/-- The low `n` bytes of a number spell its remainder. -/
theorem beNat_beBytes (n v : Nat) : beNat (beBytes n v) = v % 256 ^ n := by
  induction n generalizing v with
  | zero => rw [Nat.pow_zero, Nat.mod_one]; rfl
  | succ n ih =>
    rw [beBytes, beNat_append_singleton, ih, BitVec.toNat_ofNat, Nat.pow_succ' (m := 256) (n := n), Nat.mod_mul]
    omega

/-- A 16-bit value survives being written as two bytes. -/
theorem beNat_beBytes_two {v : Nat} (hv : v < 65536) : beNat (beBytes 2 v) = v :=
  (beNat_beBytes 2 v).trans (Nat.mod_eq_of_lt hv)

/-- A field of two bytes, or of the fewer that are left, holds a 16-bit value. -/
theorem field_two_lt (offset : Nat) (bs : Bytes) : field offset 2 bs < 65536 :=
  calc field offset 2 bs
    _ < 256 ^ (slice offset 2 bs).length := beNat_lt _
    _ ≤ 256 ^ 2 := Nat.pow_le_pow_right (by decide) (List.length_take_le _ _)

/-! ## Bytes written over bytes -/

section Overwrite
variable {o : Nat} {new bs : Bytes}

theorem overwrite_length (h : o + new.length ≤ bs.length) : (overwrite o new bs).length = bs.length := by
  simp only [overwrite, List.length_append, List.length_take, List.length_drop]
  omega

theorem slice_overwrite (h : o ≤ bs.length) : slice o new.length (overwrite o new bs) = new := by
  have hlength : (bs.take o).length = o := List.length_take_of_le h
  rw [slice, overwrite, List.append_assoc, List.drop_left' hlength, List.take_left]

/-- The bytes before and after the new ones stay. -/
theorem getElem?_overwrite_of_outside {j : Nat} (h : o ≤ bs.length) (hj : j < o ∨ o + new.length ≤ j) :
    (overwrite o new bs)[j]? = bs[j]? := by
  have hlength : (bs.take o).length = o := List.length_take_of_le h
  rcases hj with hbefore | hafter
  · rw [overwrite, List.append_assoc, List.getElem?_append_left (by omega), List.getElem?_take_of_lt hbefore]
  · rw [overwrite, List.getElem?_append_right (by simp only [List.length_append]; omega), List.getElem?_drop,
      List.length_append, hlength, Nat.add_sub_cancel' hafter]

end Overwrite

/-- A 16-bit value written at an offset is what its two bytes then hold; the length and all other bytes stay. -/
theorem overwrite_word {o v : Nat} {bs : Bytes} (h : o + 2 ≤ bs.length) (hv : v < 65536) :
    (overwrite o (beBytes 2 v) bs).length = bs.length
      ∧ field o 2 (overwrite o (beBytes 2 v) bs) = v
      ∧ ∀ j, j < o ∨ o + 2 ≤ j → (overwrite o (beBytes 2 v) bs)[j]? = bs[j]? := by
  have hnew : (beBytes 2 v).length = 2 := beBytes_length 2 v
  refine ⟨overwrite_length (by omega), ?_, fun j hj => getElem?_overwrite_of_outside (by omega) (by omega)⟩
  have hread : slice o 2 (overwrite o (beBytes 2 v) bs) = beBytes 2 v := by
    simpa only [hnew] using slice_overwrite (new := beBytes 2 v) (show o ≤ bs.length by omega)
  rw [field, hread, beNat_beBytes_two hv]

/-! ## Ones-complement addition modulo 65535 -/

/-- The carry that comes back makes ones-complement addition agree with the ordinary sum modulo 65535. -/
theorem onesAdd_mod (a b : Nat) : onesAdd a b % 65535 = (a + b) % 65535 := by
  simp only [onesAdd]
  split <;> omega

theorem onesNot_lt (a : Nat) : onesNot a < 65536 := by
  simp only [onesNot]
  omega

/-- A 16-bit value and its complement sum to 65535. -/
theorem onesNot_add_self {a : Nat} (ha : a < 65536) : onesNot a + a = 65535 := by
  simp only [onesNot]
  omega

/-- The corrected checksum stands to m' as HC stands to m (R155). -/
theorem fixedChecksum_add_mod {hc m m' : Nat} (hhc : hc < 65536) (hm : m < 65536) (hm' : m' < 65536) :
    (fixedChecksum hc m m' + m') % 65535 = (hc + m) % 65535 := by
  have hinner := onesAdd_mod (onesNot hc) (onesNot m)
  have houter := onesAdd_mod (onesAdd (onesNot hc) (onesNot m)) m'
  have hsum : onesAdd (onesAdd (onesNot hc) (onesNot m)) m' < 65536 :=
    onesAdd_lt (onesAdd_lt (onesNot_lt hc) (onesNot_lt m)) hm'
  have hnotSum := onesNot_add_self hsum
  have hnotHc := onesNot_add_self hhc
  have hnotM := onesNot_add_self hm
  rw [fixedChecksum]
  omega

/-! ## The fix-ups -/

theorem lengthFix_some (o inner : Nat) (work : Bytes) :
    lengthFix (some o) inner work = overwrite o (beBytes 2 ((field o 2 work + inner) % 65536)) work := rfl

/-- With fix-up A and the checksum fix-up present, HC is read from the working copy and m from the stored template. -/
theorem checksumFix_of_some {t : TunnelRecord} {a o : Nat} (ha : t.fixA = some a) (ho : t.fixChecksum = some o)
    (inner : Nat) (work : Bytes) :
    checksumFix t inner work = overwrite o (beBytes 2 (fixedChecksum (field o 2 work) (field a 2 (templateBytes t))
      ((field a 2 (templateBytes t) + inner) % 65536))) work := by
  simp only [checksumFix, ha, ho]

theorem checksumFix_of_absent {t : TunnelRecord} (h : t.fixA = none ∨ t.fixChecksum = none) (inner : Nat)
    (work : Bytes) : checksumFix t inner work = work := by
  rcases h with ha | ho
  · simp only [checksumFix, ha]
  · cases ha : t.fixA <;> simp only [checksumFix, ha, ho]

/-- Settles O21: a length fix-up writes one 16-bit value at its offset. -/
theorem lengthFixupsAddTheInnerLength : Obligations.LengthFixupsAddTheInnerLength := by
  refine ⟨fun o inner work h => ?_, fun _ _ => rfl, fun _ _ => rfl⟩
  rw [lengthFix_some]
  exact overwrite_word h (Nat.mod_lt _ (by decide))

/-- Settles O22: the checksum fix-up writes one 16-bit value at its offset, and that value agrees modulo 65535 with the
ordinary sum of its terms. -/
theorem checksumFixupFollowsTheLength : Obligations.ChecksumFixupFollowsTheLength := by
  refine ⟨fun t a o inner work ha ho h => ?_, fun t inner work h => checksumFix_of_absent h inner work,
    fun _ _ => rfl⟩
  intro m m' hc fixed
  have hfixed : fixed = overwrite o (beBytes 2 (fixedChecksum hc m m')) work := checksumFix_of_some ha ho inner work
  obtain ⟨hlength, hfield, houtside⟩ := overwrite_word h (show fixedChecksum hc m m' < 65536 from onesNot_lt _)
  rw [← hfixed] at hlength hfield houtside
  refine ⟨hlength, hfield, ?_, houtside⟩
  rw [hfield]
  exact fixedChecksum_add_mod (field_two_lt o work) (field_two_lt a (templateBytes t)) (Nat.mod_lt _ (by decide))

end Sys2Proof.Machine
end
